-- ==== Sys2Proof/Word.lean ====
section
/-!
DEFINITION. The word types of the machine (`00_scope.md` R5): bit 0 is the least significant bit of every value, a
byte is 8 bits, a halfword 16, a word 32, a doubleword 64.
-/

namespace Sys2Proof

abbrev Byte := BitVec 8
abbrev Half := BitVec 16
abbrev Word := BitVec 32
abbrev DWord := BitVec 64

/-- A virtual address (`20_memory.md` R50), and the width of `pc` (`10_state.md` R23). -/
abbrev Addr := BitVec 64

/-- The number of a general register (`10_state.md` R20). -/
abbrev Reg := Fin 32

/-- The number of an accumulator (`10_state.md` R26). -/
abbrev Acc := Fin 4

end Sys2Proof
end

