-- ==== Sys2Proof/Machine/Operands.lean ====
section
/-!
DEFINITION. The operand forms of the packed formats (`00_scope.md` R9): the elements of a word, element-wise
operations, and the bit-field forms that select or splice parts of words.

An element operation that can raise an `ouflag` bit answers the element and whether it raises it (a `Flagged`); the
packed result raises the flag when any element does (`40_arith_add_sub.md` R100 e).
-/

namespace Sys2Proof.Machine

/-- A value, and whether computing it raises the instruction's `ouflag` bit. -/
abbrev Flagged (n : Nat) := BitVec n × Bool

/-! ### Elements -/

/-- The left halfword, bits 31..16 (B). -/
def halfB (w : Word) : Half := w.extractLsb' 16 16
/-- The right halfword, bits 15..0 (A). -/
def halfA (w : Word) : Half := w.extractLsb' 0 16
/-- Bits 31..24. -/
def byteD (w : Word) : Byte := w.extractLsb' 24 8
/-- Bits 23..16. -/
def byteC (w : Word) : Byte := w.extractLsb' 16 8
/-- Bits 15..8. -/
def byteB (w : Word) : Byte := w.extractLsb' 8 8
/-- Bits 7..0. -/
def byteA (w : Word) : Byte := w.extractLsb' 0 8

/-- `B || A`. -/
def packPH (b a : Half) : Word := b ++ a
/-- `D || C || B || A`. -/
def packQB (d c b a : Byte) : Word := d ++ c ++ b ++ a

/-! ### Element-wise operations -/

def mapPH (f : Half → Half) (x : Word) : Word := packPH (f (halfB x)) (f (halfA x))

def mapQB (f : Byte → Byte) (x : Word) : Word := packQB (f (byteD x)) (f (byteC x)) (f (byteB x)) (f (byteA x))

def zipPH (f : Half → Half → Half) (x y : Word) : Word := packPH (f (halfB x) (halfB y)) (f (halfA x) (halfA y))

def zipQB (f : Byte → Byte → Byte) (x y : Word) : Word :=
  packQB (f (byteD x) (byteD y)) (f (byteC x) (byteC y)) (f (byteB x) (byteB y)) (f (byteA x) (byteA y))

/-- Two flagged halfwords as one flagged word. -/
def joinPH (b a : Flagged 16) : Flagged 32 := (packPH b.1 a.1, b.2 || a.2)

/-- Four flagged bytes as one flagged word. -/
def joinQB (d c b a : Flagged 8) : Flagged 32 := (packQB d.1 c.1 b.1 a.1, d.2 || c.2 || b.2 || a.2)

def mapPHFlag (f : Half → Flagged 16) (x : Word) : Flagged 32 := joinPH (f (halfB x)) (f (halfA x))

def mapQBFlag (f : Byte → Flagged 8) (x : Word) : Flagged 32 :=
  joinQB (f (byteD x)) (f (byteC x)) (f (byteB x)) (f (byteA x))

def zipPHFlag (f : Half → Half → Flagged 16) (x y : Word) : Flagged 32 :=
  joinPH (f (halfB x) (halfB y)) (f (halfA x) (halfA y))

def zipQBFlag (f : Byte → Byte → Flagged 8) (x y : Word) : Flagged 32 :=
  joinQB (f (byteD x) (byteD y)) (f (byteC x) (byteC y)) (f (byteB x) (byteB y)) (f (byteA x) (byteA y))

/-- The four condition bits of a byte-wise comparison, D first (`42_branch_compare_pick.md` R209). -/
def compareQB (f : Byte → Byte → Bool) (x y : Word) : BitVec 4 :=
  BitVec.ofBool (f (byteD x) (byteD y)) ++ BitVec.ofBool (f (byteC x) (byteC y)) ++
    BitVec.ofBool (f (byteB x) (byteB y)) ++ BitVec.ofBool (f (byteA x) (byteA y))

/-- The two condition bits of a halfword-wise comparison, B first (R206). -/
def comparePH (f : Half → Half → Bool) (x y : Word) : BitVec 2 :=
  BitVec.ofBool (f (halfB x) (halfB y)) ++ BitVec.ofBool (f (halfA x) (halfA y))

/-- `x` where the condition bit is 1, else `y` (R218). -/
def pickElement {n : Nat} (c : Bool) (x y : BitVec n) : BitVec n := if c then x else y

/-- PICK.PH on condition bits `c` (bit 1 for B, bit 0 for A; R218). -/
def pickPH (c : BitVec 8) (x y : Word) : Word :=
  packPH (pickElement (c.getLsbD 1) (halfB x) (halfB y)) (pickElement (c.getLsbD 0) (halfA x) (halfA y))

/-- PICK.QB on condition bits `c` (bits 3..0 for D, C, B, A; R219). -/
def pickQB (c : BitVec 8) (x y : Word) : Word :=
  packQB (pickElement (c.getLsbD 3) (byteD x) (byteD y)) (pickElement (c.getLsbD 2) (byteC x) (byteC y))
    (pickElement (c.getLsbD 1) (byteB x) (byteB y)) (pickElement (c.getLsbD 0) (byteA x) (byteA y))

/-! ### Splicing and bit fields (`41_bit_pack_precision.md`) -/

/-- APPEND (R160): `rt` shifted left by `sa`, the low `sa` bits of `rs` below it. -/
def appendWord (rt rs : Word) (sa : Nat) : Word := (rt <<< sa) ||| (rs &&& ~~~(BitVec.allOnes 32 <<< sa))

/-- PREPEND (R164): `rt` shifted right by `sa`, the low `sa` bits of `rs` above it. -/
def prependWord (rt rs : Word) (sa : Nat) : Word := (rs <<< (32 - sa)) ||| (rt >>> sa)

/-- BALIGN for `bp` of 1 or 3 (R161): `rt` shifted left by `bp` bytes, the high `bp` bytes of `rs` below it. -/
def alignWord (rt rs : Word) (bp : Nat) : Word := (rt <<< (8 * bp)) ||| (rs >>> (8 * (4 - bp)))

/-- The word whose bits `pos + size - 1` down to `pos` are ones. -/
def fieldMask (pos size : Nat) : Word := (BitVec.allOnes 32 >>> (32 - size)) <<< pos

/-- INSV's `new` (R166): bits `pos + size - 1` down to `pos` of `rt` replaced by the low `size` bits of `rs`. -/
def insertWord (rt rs : Word) (pos size : Nat) : Word :=
  (rt &&& ~~~fieldMask pos size) ||| ((rs <<< pos) &&& fieldMask pos size)

/-- What INSV writes (R166): `new` below 32 copies of bit 31 of `rt` before the insertion (V7). -/
def insertDWord (rt rs : Word) (pos size : Nat) : DWord :=
  (BitVec.ofBool rt.msb).signExtend 32 ++ insertWord rt rs pos size

/-- INSV is defined for these positions and sizes (R166). -/
def insertDefined (pos size : Nat) : Bool :=
  decide (pos < 32) && decide (0 < size) && decide (size ≤ 32) && decide (pos + size ≤ 32)

/-- `NotWordValue(v)`: `v` is not the sign extension of its low word (`00_scope.md` R7, `44_accumulator_access.md`
R300). -/
def notWordValue (v : DWord) : Bool := decide (v ≠ (v.extractLsb' 0 32).signExtend 64)

/-- BITREV (R162): the low halfword with its bits in reverse order. -/
def reverseHalf (x : Half) : Half := x.reverse

/-- The halfword `0 || b || 0^7` of PRECEQU (R169). -/
def expandQ15 (b : Byte) : Half := 0#1 ++ b ++ 0#7

/-- The halfword `0^8 || b` of PRECEU (R173). -/
def expandU16 (b : Byte) : Half := 0#8 ++ b

/-- `acc[start : start - size]`, zero-extended, when `start >= size` (`44_accumulator_access.md` R281). -/
def extractField (v : DWord) (start size : Nat) : Option DWord :=
  if size ≤ start then some ((v >>> (start - size)) &&& (BitVec.allOnes 64 >>> (63 - size))) else none

/-- `shiftAcc65` (R286): `v` shifted right arithmetically with one guard bit below. -/
def shiftGuarded (v : DWord) (shift : Nat) : BitVec 65 := (v ++ 0#1).sshiftRight shift

/-- The shift of SHILO and SHILOV (R308): a positive amount shifts right, a negative one left, both logically. -/
def shiftSigned (v : DWord) (amount : BitVec 6) : DWord :=
  if amount.msb then v <<< (-amount).toNat else v >>> amount.toNat

/-- The bits of `DSPControl` that an RDDSP or WRDSP mask selects (R310, R311): mask bits 0 to 5 for `pos`, `scount`,
`c`, `ouflag`, `ccond`, `EFI`; mask bits 6 to 9 select nothing. -/
def controlMask (mask : BitVec 10) : Word :=
  (if mask.getLsbD 0 then 0x0000007F#32 else 0#32) |||
  (if mask.getLsbD 1 then 0x00001F80#32 else 0#32) |||
  (if mask.getLsbD 2 then 0x00002000#32 else 0#32) |||
  (if mask.getLsbD 3 then 0x00FF0000#32 else 0#32) |||
  (if mask.getLsbD 4 then 0xFF000000#32 else 0#32) |||
  (if mask.getLsbD 5 then 0x00004000#32 else 0#32)

end Sys2Proof.Machine
end

