-- ==== Sys2Proof/Machine/Flags.lean ====
section
/-!
DEFINITION. The arithmetic helpers of the instruction pages, each with the condition under which it raises the
instruction's `ouflag` bit: absolute value, add and subtract, halving, multiplication, accumulation, left shifts,
rounding right shifts, precision reduction and the accumulator extracts.
-/

namespace Sys2Proof.Machine

/-! ### Products (`00_scope.md` R6) -/

/-- The low `m` bits of `smul(a, b)`. -/
def smul {n : Nat} (m : Nat) (a b : BitVec n) : BitVec m := BitVec.ofInt m (a.toInt * b.toInt)

/-- The low `m` bits of `umul(a, b)`. -/
def umul {n k : Nat} (m : Nat) (a : BitVec n) (b : BitVec k) : BitVec m := BitVec.ofNat m (a.toNat * b.toNat)

/-! ### Absolute value, add and subtract (`40_arith_add_sub.md` R101 to R104) -/

/-- `satAbs_N` (R101). -/
def satAbs {n : Nat} (a : BitVec n) : Flagged n :=
  if a = BitVec.intMin n then (BitVec.intMax n, true)
  else if a.msb then (-a, false)
  else (a, false)

/-- The `op` of R102 to R104. -/
inductive AddOp where
  | add | sub
  deriving DecidableEq, Repr

def AddOp.apply {n : Nat} : AddOp → BitVec n → BitVec n → BitVec n
  | .add, a, b => a + b
  | .sub, a, b => a - b

/-- `sext_(N+1)(a) op sext_(N+1)(b)`. -/
def wideS {n : Nat} (op : AddOp) (a b : BitVec n) : BitVec (n + 1) :=
  op.apply (a.signExtend (n + 1)) (b.signExtend (n + 1))

/-- `zext_(N+1)(a) op zext_(N+1)(b)`. -/
def wideU {n : Nat} (op : AddOp) (a b : BitVec n) : BitVec (n + 1) :=
  op.apply (a.setWidth (n + 1)) (b.setWidth (n + 1))

/-- `t[N] != t[N-1]`: the value does not fit in `N` signed bits (R102). -/
def overflows {n : Nat} (t : BitVec (n + 1)) : Bool := t.getLsbD n != t.getLsbD (n - 1)

/-- The bound nearest to a value of `N + 1` bits that does not fit in `N` signed bits (R102). -/
def nearestBound {n : Nat} (t : BitVec (n + 1)) : BitVec n :=
  if t.getLsbD n then BitVec.intMin n else BitVec.intMax n

/-- The low `N` bits, with the flag on overflow. -/
def wrapOf {n : Nat} (t : BitVec (n + 1)) : Flagged n := (t.setWidth n, overflows t)

/-- The value saturated to `N` signed bits, with the flag on overflow. -/
def satOf {n : Nat} (t : BitVec (n + 1)) : Flagged n :=
  (if overflows t then nearestBound t else t.setWidth n, overflows t)

/-- `wrapS_N` (R102). -/
def wrapS {n : Nat} (op : AddOp) (a b : BitVec n) : Flagged n := wrapOf (wideS op a b)

/-- `satS_N` (R102). -/
def satS {n : Nat} (op : AddOp) (a b : BitVec n) : Flagged n := satOf (wideS op a b)

/-- `wrapU_N` (R103). -/
def wrapU {n : Nat} (op : AddOp) (a b : BitVec n) : Flagged n :=
  ((wideU op a b).setWidth n, (wideU op a b).getLsbD n)

/-- `satU_N` (R103): clamped to all ones by an add, to zero by a subtract. -/
def satU {n : Nat} (op : AddOp) (a b : BitVec n) : Flagged n :=
  if (wideU op a b).getLsbD n then ((match op with | .add => BitVec.allOnes n | .sub => 0#n), true)
  else ((wideU op a b).setWidth n, false)

/-- Bits `N` down to 1 of a value of `N + 1` bits after adding the rounding bit (R104). -/
def halve {n : Nat} (rnd : Bool) (t : BitVec (n + 1)) : BitVec n :=
  (t + (BitVec.ofBool rnd).setWidth (n + 1)).extractLsb' 1 n

/-- `halfS_N` (R104). -/
def halfS {n : Nat} (op : AddOp) (rnd : Bool) (a b : BitVec n) : BitVec n := halve rnd (wideS op a b)

/-- `halfU_8` (R104). -/
def halfU {n : Nat} (op : AddOp) (rnd : Bool) (a b : BitVec n) : BitVec n := halve rnd (wideU op a b)

/-- ADDSC's 33-bit sum (R115). -/
def addCarryOut (a b : Word) : BitVec 33 := wideU .add a b

/-- ADDWC's 33-bit sum (R116). -/
def addCarryIn (a b : Word) (c : BitVec 1) : BitVec 33 := wideS .add a b + c.setWidth 33

/-- MODSUB (R123). -/
def modSub (rs rt : DWord) : DWord :=
  if rs.extractLsb' 0 32 = 0#32 then (rt.extractLsb' 8 16).setWidth 64 else rs - (rt.extractLsb' 0 8).setWidth 64

/-- RADDU.W.QB (R124): the sum in ten bits. -/
def sumBytes (w : Word) : BitVec 10 :=
  (byteD w).setWidth 10 + (byteC w).setWidth 10 + (byteB w).setWidth 10 + (byteA w).setWidth 10

/-! ### Precision reduction (`41_bit_pack_precision.md`) -/

/-- `trunc16Sat16Round` (R180). -/
def roundToHalf (a : Word) : Flagged 16 :=
  let t : BitVec 33 := a.signExtend 33 + 0x8000#33
  if overflows t then (0x7FFF#16, true) else (t.extractLsb' 16 16, false)

/-- `sat8ReducePrecision` (R181). -/
def reduceToByte (a : Half) : Flagged 8 :=
  if a.msb then (0x00#8, true)
  else if (a.extractLsb' 0 15).toNat > 0x7F80 then (0xFF#8, true)
  else (a.extractLsb' 7 8, false)

/-! ### Right shifts with rounding (`47_shifts.md` R389, R393, R398; `41_bit_pack_precision.md` R183) -/

/-- `a` shifted right arithmetically by `s` with a guard bit below, 1 added at the guard bit, the guard bit
dropped. For `s` = 0 the guard bit is 0 and the result is `a`. -/
def roundShift {n : Nat} (a : BitVec n) (s : Nat) : BitVec n :=
  ((a ++ 0#1).sshiftRight s + 1#(n + 1)).extractLsb' 1 n

/-- The low halfword of a word shifted right arithmetically (R182). -/
def shiftToHalf (a : Word) (sa : Nat) : Half := (a.sshiftRight sa).extractLsb' 0 16

/-- The low halfword of a word shifted right with rounding (R183). -/
def roundShiftToHalf (a : Word) (sa : Nat) : Half := (roundShift a sa).extractLsb' 0 16

/-! ### Left shifts (`47_shifts.md` R371, R374, R375, R380) -/

/-- `discard`: the sign bit of `a` above the `s` bits below it that a left shift by `s` moves out. -/
def discarded {n : Nat} (a : BitVec n) (s : Nat) : BitVec n := a.sshiftRight (n - 1 - s)

/-- `shift8Left` (R371): the flag tests `discard != 0` only. -/
def shiftLeftU {n : Nat} (a : BitVec n) (s : Nat) : Flagged n :=
  if s = 0 then (a, false) else (a <<< s, decide (discarded a s ≠ 0#n))

/-- The overflow test of the halfword and word left shifts (R374): `discard` is neither all zeros nor all ones. -/
def shiftOverflows {n : Nat} (a : BitVec n) (s : Nat) : Bool :=
  decide (s ≠ 0) && decide (discarded a s ≠ 0#n) && decide (discarded a s ≠ BitVec.allOnes n)

/-- `shift16Left` (R374). -/
def shiftLeftS {n : Nat} (a : BitVec n) (s : Nat) : Flagged n := (a <<< s, shiftOverflows a s)

/-- `sat16ShiftLeft` (R375) and `sat32ShiftLeft` (R380). -/
def satShiftLeft {n : Nat} (a : BitVec n) (s : Nat) : Flagged n :=
  if shiftOverflows a s then ((if a.msb then BitVec.intMin n else BitVec.intMax n), true) else (a <<< s, false)

/-! ### Multiplication with saturation -/

/-- The fractional product of two `N`-bit values in `2N` bits; -1.0 times -1.0 gives the largest value and the flag
(`multiplyQ15Q15` of `43_dot_product_mac.md` R231, `multiplyQ31Q31` of R232, `mulQ15_21` of `46_multiply_gpr.md`
R351). -/
def mulFrac {n : Nat} (a b : BitVec n) : Flagged (2 * n) :=
  if a = BitVec.intMin n ∧ b = BitVec.intMin n then (BitVec.intMax (2 * n), true)
  else (smul (2 * n) a b <<< 1, false)

/-- `multiplyU8U8` (R233). -/
def mulBytes (a b : Byte) : Half := umul 16 a b

/-- `multiplyU8U16` (`46_multiply_gpr.md` R354). -/
def mulByteHalf (a : Byte) (b : Half) : Flagged 16 :=
  let t : BitVec 26 := umul 26 a b
  if t.extractLsb' 16 10 ≠ 0#10 then (0xFFFF#16, true) else (t.extractLsb' 0 16, false)

/-- `rndQ15MultiplyQ15Q15` (R357). -/
def mulRoundQ15 (a b : Half) : Flagged 16 :=
  if a = 0x8000#16 ∧ b = 0x8000#16 then (0x7FFF#16, true)
  else ((smul 32 a b <<< 1 + 0x8000#32).extractLsb' 16 16, false)

/-- `sat16MultiplyQ15Q15` (R359). -/
def mulTruncQ15 (a b : Half) : Flagged 16 :=
  if a = 0x8000#16 ∧ b = 0x8000#16 then (0x7FFF#16, true)
  else ((smul 32 a b <<< 1).extractLsb' 16 16, false)

/-- MULQ_S.W (R361). -/
def mulTruncQ31 (a b : Word) : Flagged 32 :=
  if a = 0x80000000#32 ∧ b = 0x80000000#32 then (0x7FFFFFFF#32, true)
  else ((smul 64 a b <<< 1).extractLsb' 32 32, false)

/-- MULQ_RS.W (R362). -/
def mulRoundQ31 (a b : Word) : Flagged 32 :=
  if a = 0x80000000#32 ∧ b = 0x80000000#32 then (0x7FFFFFFF#32, true)
  else ((smul 64 a b <<< 1 + 0x80000000#64).extractLsb' 32 32, false)

/-- `MultiplyI16I16` (R363). -/
def mulWrap16 (a b : Half) : Flagged 16 :=
  let t := a.toInt * b.toInt
  (smul 16 a b, decide (t > 0x7FFF) || decide (t < -0x8000))

/-- `satMultiplyI16I16` (R363). -/
def mulSat16 (a b : Half) : Flagged 16 :=
  let t := a.toInt * b.toInt
  if t > 0x7FFF then (0x7FFF#16, true)
  else if t < -0x8000 then (0x8000#16, true)
  else (smul 16 a b, false)

/-! ### Dot products (`43_dot_product_mac.md`) -/

/-- The signed products of the left and of the right halfwords, as 64-bit values (R236). -/
def halfProducts (x y : Word) : DWord × DWord := (smul 64 (halfB x) (halfB y), smul 64 (halfA x) (halfA y))

/-- The cross products: left by right and right by left (R238). -/
def crossProducts (x y : Word) : DWord × DWord := (smul 64 (halfB x) (halfA y), smul 64 (halfA x) (halfB y))

/-- A flagged word as a sign-extended 64-bit value. -/
def wordFlagged (r : Flagged 32) : Flagged 64 := (r.1.signExtend 64, r.2)

/-- The fractional products of the left and of the right halfwords, as 64-bit values (R244). -/
def halfFracs (x y : Word) : Flagged 64 × Flagged 64 :=
  (wordFlagged (mulFrac (halfB x) (halfB y)), wordFlagged (mulFrac (halfA x) (halfA y)))

/-- The fractional cross products, as 64-bit values (R246). -/
def crossFracs (x y : Word) : Flagged 64 × Flagged 64 :=
  (wordFlagged (mulFrac (halfB x) (halfA y)), wordFlagged (mulFrac (halfA x) (halfB y)))

/-- The sum of two products, with the flag of either. -/
def fracSum (p : Flagged 64 × Flagged 64) : Flagged 64 := (p.1.1 + p.2.1, p.1.2 || p.2.2)

/-- The left product minus the right one, with the flag of either (R253). -/
def fracDiff (p : Flagged 64 × Flagged 64) : Flagged 64 := (p.1.1 - p.2.1, p.1.2 || p.2.2)

/-- The sum of the products of the two left bytes (R240). -/
def leftByteDot (x y : Word) : DWord :=
  (mulBytes (byteD x) (byteD y)).setWidth 64 + (mulBytes (byteC x) (byteC y)).setWidth 64

/-- The sum of the products of the two right bytes (R241). -/
def rightByteDot (x y : Word) : DWord :=
  (mulBytes (byteB x) (byteB y)).setWidth 64 + (mulBytes (byteA x) (byteA y)).setWidth 64

/-- A product added to or subtracted from the accumulator value `v`, modulo 2^64, with the product's flag (R230 d). -/
def accumulate (op : AddOp) (v : DWord) (p : Flagged 64) : Flagged 64 := (op.apply v p.1, p.2)

/-- `satAcc31` (R234). -/
def satToQ31 (t : DWord) : Flagged 64 :=
  if t.msb = false ∧ t.extractLsb' 31 32 ≠ 0#32 then (0x000000007FFFFFFF#64, true)
  else if t.msb = true ∧ t.extractLsb' 31 32 ≠ BitVec.allOnes 32 then (0xFFFFFFFF80000000#64, true)
  else (t, false)

/-- `satAcc63` (R235) on the accumulator value `v`. -/
def satAccumulate63 (op : AddOp) (v d : DWord) : Flagged 64 := satOf (wideS op v d)

/-- `sat32AccumulateQ31` (R262) on the two halves of the accumulator. -/
def satAccumulate31 (hi lo : DWord) (a : Word) : Flagged 32 :=
  let t : BitVec 128 := (hi ++ lo) + a.signExtend 128
  satOf (n := 32) (t.extractLsb' 0 33)

/-- DPAQX_SA.W.PH and DPSQX_SA.W.PH (R248): accumulated, then saturated to Q31; the flag of either. -/
def accumulateSat31 (op : AddOp) (v : DWord) (p : Flagged 64) : Flagged 64 :=
  ((satToQ31 (op.apply v p.1)).1, p.2 || (satToQ31 (op.apply v p.1)).2)

/-- DPAQ_SA.L.W and DPSQ_SA.L.W (R250): the saturating accumulation of a product; the flag of either. -/
def accumulateSat63 (op : AddOp) (v : DWord) (p : Flagged 64) : Flagged 64 :=
  ((satAccumulate63 op v p.1).1, p.2 || (satAccumulate63 op v p.1).2)

/-- MAQ_SA.W.PHL and MAQ_SA.W.PHR (R260): the Q31 accumulation of a product; the flag of either. -/
def accumulateQ31 (hi lo : DWord) (p : Flagged 32) : Flagged 32 :=
  ((satAccumulate31 hi lo p.1).1, p.2 || (satAccumulate31 hi lo p.1).2)

/-! ### Accumulator extracts (`44_accumulator_access.md`) -/

/-- `ovf33` (R286). -/
def extractOverflows (t : BitVec 65) : Bool :=
  decide (t.extractLsb' 32 33 ≠ 0#33) && decide (t.extractLsb' 32 33 ≠ BitVec.allOnes 33)

/-- EXTR.W and EXTRV.W (R287): truncated; the rounded value is tested too. -/
def extractTrunc (v : DWord) (shift : Nat) : Flagged 32 :=
  let t := shiftGuarded v shift
  (t.extractLsb' 1 32, extractOverflows t || extractOverflows (t + 1#65))

/-- EXTR_R.W and EXTRV_R.W (R288): rounded. -/
def extractRound (v : DWord) (shift : Nat) : Flagged 32 :=
  let t := shiftGuarded v shift
  ((t + 1#65).extractLsb' 1 32, extractOverflows t || extractOverflows (t + 1#65))

/-- EXTR_RS.W and EXTRV_RS.W (R289): rounded and saturated. -/
def extractRoundSat (v : DWord) (shift : Nat) : Flagged 32 :=
  let t := shiftGuarded v shift
  let u := t + 1#65
  ((if extractOverflows u then (if u.getLsbD 64 then 0x80000000#32 else 0x7FFFFFFF#32) else u.extractLsb' 1 32),
    extractOverflows t || extractOverflows u)

/-- EXTR_S.H and EXTRV_S.H (R294): shifted and saturated to a halfword. -/
def extractHalfSat (v : DWord) (shift : Nat) : Flagged 32 :=
  let t := v.sshiftRight shift
  if t.toInt > 0x7FFF then (0x00007FFF#32, true)
  else if t.toInt < -0x8000 then (0xFFFF8000#32, true)
  else (t.extractLsb' 0 32, false)

end Sys2Proof.Machine
end

