-- ==== Sys2Proof/Syntax.lean ====
section
/-!
DEFINITION. The instruction set as syntax: one constructor of `Instr` per row of `spec/opcode_table.json`,
operands in the assembler order of `30_encoding.md` R91, the mnemonic of each constructor and the availability
tag its page carries (`00_scope.md` R2).

Operand types follow `30_encoding.md` R87: a register number is a `Reg`, an accumulator number an `Acc`, an
unsigned amount (`sa`, `size`, `shift`, `bp`) a natural number whose range `WellFormed.lean` checks, and a field
that the rules read as bits (`offset`, `immediate`, `mask`, the signed `shift` of SHILO) a bit vector.
-/

namespace Sys2Proof

/-- The availability tags of the pages (`00_scope.md` R2). -/
inductive IsaTag where
  /-- MIPSDSP: revision 1 of the Module. -/
  | dsp
  /-- MIPSDSP-R2. -/
  | dspR2
  /-- MIPSDSP-R3. -/
  | dspR3
  /-- "MIPS32 pre-Release 6, MIPSDSP": revision 1, and a base architecture before Release 6. -/
  | preR6
  deriving DecidableEq, Repr

/-- The revision a tag demands: the argument `rev` of `DSP_CHECK` (`60_exceptions.md` R412). -/
def IsaTag.rev : IsaTag → Nat
  | .dsp => 1
  | .dspR2 => 2
  | .dspR3 => 3
  | .preR6 => 1

/-- The 161 instructions, in the order of the opcode table. -/
inductive Instr where
  /-- `ADDU.QB rd, rs, rt` (R117). -/
  | adduQb (rd rs rt : Reg)
  /-- `SUBU.QB rd, rs, rt` (R132). -/
  | subuQb (rd rs rt : Reg)
  /-- `ADDU_S.QB rd, rs, rt` (R118). -/
  | adduSQb (rd rs rt : Reg)
  /-- `SUBU_S.QB rd, rs, rt` (R133). -/
  | subuSQb (rd rs rt : Reg)
  /-- `MULEU_S.PH.QBL rd, rs, rt` (R355). -/
  | muleuSPhQbl (rd rs rt : Reg)
  /-- `MULEU_S.PH.QBR rd, rs, rt` (R356). -/
  | muleuSPhQbr (rd rs rt : Reg)
  /-- `ADDU.PH rd, rs, rt` (R119). -/
  | adduPh (rd rs rt : Reg)
  /-- `SUBU.PH rd, rs, rt` (R134). -/
  | subuPh (rd rs rt : Reg)
  /-- `ADDQ.PH rd, rs, rt` (R108). -/
  | addqPh (rd rs rt : Reg)
  /-- `SUBQ.PH rd, rs, rt` (R125). -/
  | subqPh (rd rs rt : Reg)
  /-- `ADDU_S.PH rd, rs, rt` (R120). -/
  | adduSPh (rd rs rt : Reg)
  /-- `SUBU_S.PH rd, rs, rt` (R135). -/
  | subuSPh (rd rs rt : Reg)
  /-- `ADDQ_S.PH rd, rs, rt` (R109). -/
  | addqSPh (rd rs rt : Reg)
  /-- `SUBQ_S.PH rd, rs, rt` (R126). -/
  | subqSPh (rd rs rt : Reg)
  /-- `ADDSC rd, rs, rt` (R115). -/
  | addsc (rd rs rt : Reg)
  /-- `ADDWC rd, rs, rt` (R116). -/
  | addwc (rd rs rt : Reg)
  /-- `MODSUB rd, rs, rt` (R123). -/
  | modsub (rd rs rt : Reg)
  /-- `ADDQ_S.W rd, rs, rt` (R110). -/
  | addqSW (rd rs rt : Reg)
  /-- `SUBQ_S.W rd, rs, rt` (R127). -/
  | subqSW (rd rs rt : Reg)
  /-- `MULEQ_S.W.PHL rd, rs, rt` (R352). -/
  | muleqSWPhl (rd rs rt : Reg)
  /-- `MULEQ_S.W.PHR rd, rs, rt` (R353). -/
  | muleqSWPhr (rd rs rt : Reg)
  /-- `MULQ_S.PH rd, rs, rt` (R360). -/
  | mulqSPh (rd rs rt : Reg)
  /-- `MULQ_RS.PH rd, rs, rt` (R358). -/
  | mulqRsPh (rd rs rt : Reg)
  /-- `RADDU.W.QB rd, rs` (R124). -/
  | radduWQb (rd rs : Reg)
  /-- `CMPU.EQ.QB rs, rt` (R209). -/
  | cmpuEqQb (rs rt : Reg)
  /-- `CMPU.LT.QB rs, rt` (R210). -/
  | cmpuLtQb (rs rt : Reg)
  /-- `CMPU.LE.QB rs, rt` (R211). -/
  | cmpuLeQb (rs rt : Reg)
  /-- `PICK.QB rd, rs, rt` (R219). -/
  | pickQb (rd rs rt : Reg)
  /-- `CMPGU.EQ.QB rd, rs, rt` (R212). -/
  | cmpguEqQb (rd rs rt : Reg)
  /-- `CMPGU.LT.QB rd, rs, rt` (R213). -/
  | cmpguLtQb (rd rs rt : Reg)
  /-- `CMPGU.LE.QB rd, rs, rt` (R214). -/
  | cmpguLeQb (rd rs rt : Reg)
  /-- `CMP.EQ.PH rs, rt` (R206). -/
  | cmpEqPh (rs rt : Reg)
  /-- `CMP.LT.PH rs, rt` (R207). -/
  | cmpLtPh (rs rt : Reg)
  /-- `CMP.LE.PH rs, rt` (R208). -/
  | cmpLePh (rs rt : Reg)
  /-- `PICK.PH rd, rs, rt` (R218). -/
  | pickPh (rd rs rt : Reg)
  /-- `PRECRQ.QB.PH rd, rs, rt` (R178). -/
  | precrqQbPh (rd rs rt : Reg)
  /-- `PRECR.QB.PH rd, rs, rt` (R177). -/
  | precrQbPh (rd rs rt : Reg)
  /-- `PACKRL.PH rd, rs, rt` (R163). -/
  | packrlPh (rd rs rt : Reg)
  /-- `PRECRQU_S.QB.PH rd, rs, rt` (R181). -/
  | precrquSQbPh (rd rs rt : Reg)
  /-- `PRECRQ.PH.W rd, rs, rt` (R179). -/
  | precrqPhW (rd rs rt : Reg)
  /-- `PRECRQ_RS.PH.W rd, rs, rt` (R180). -/
  | precrqRsPhW (rd rs rt : Reg)
  /-- `CMPGDU.EQ.QB rd, rs, rt` (R215). -/
  | cmpgduEqQb (rd rs rt : Reg)
  /-- `CMPGDU.LT.QB rd, rs, rt` (R216). -/
  | cmpgduLtQb (rd rs rt : Reg)
  /-- `CMPGDU.LE.QB rd, rs, rt` (R217). -/
  | cmpgduLeQb (rd rs rt : Reg)
  /-- `PRECR_SRA.PH.W rt, rs, sa` (R182). -/
  | precrSraPhW (rt rs : Reg) (sa : Nat)
  /-- `PRECR_SRA_R.PH.W rt, rs, sa` (R183). -/
  | precrSraRPhW (rt rs : Reg) (sa : Nat)
  /-- `ABSQ_S.QB rd, rt` (R106). -/
  | absqSQb (rd rt : Reg)
  /-- `REPL.QB rd, immediate` (R185). -/
  | replQb (rd : Reg) (imm : BitVec 8)
  /-- `REPLV.QB rd, rt` (R187). -/
  | replvQb (rd rt : Reg)
  /-- `PRECEQU.PH.QBL rd, rt` (R169). -/
  | precequPhQbl (rd rt : Reg)
  /-- `PRECEQU.PH.QBR rd, rt` (R170). -/
  | precequPhQbr (rd rt : Reg)
  /-- `PRECEQU.PH.QBLA rd, rt` (R171). -/
  | precequPhQbla (rd rt : Reg)
  /-- `PRECEQU.PH.QBRA rd, rt` (R172). -/
  | precequPhQbra (rd rt : Reg)
  /-- `ABSQ_S.PH rd, rt` (R105). -/
  | absqSPh (rd rt : Reg)
  /-- `REPL.PH rd, immediate` (R184). -/
  | replPh (rd : Reg) (imm : BitVec 10)
  /-- `REPLV.PH rd, rt` (R186). -/
  | replvPh (rd rt : Reg)
  /-- `PRECEQ.W.PHL rd, rt` (R167). -/
  | preceqWPhl (rd rt : Reg)
  /-- `PRECEQ.W.PHR rd, rt` (R168). -/
  | preceqWPhr (rd rt : Reg)
  /-- `ABSQ_S.W rd, rt` (R107). -/
  | absqSW (rd rt : Reg)
  /-- `BITREV rd, rt` (R162). -/
  | bitrev (rd rt : Reg)
  /-- `PRECEU.PH.QBL rd, rt` (R173). -/
  | preceuPhQbl (rd rt : Reg)
  /-- `PRECEU.PH.QBR rd, rt` (R174). -/
  | preceuPhQbr (rd rt : Reg)
  /-- `PRECEU.PH.QBLA rd, rt` (R175). -/
  | preceuPhQbla (rd rt : Reg)
  /-- `PRECEU.PH.QBRA rd, rt` (R176). -/
  | preceuPhQbra (rd rt : Reg)
  /-- `SHLL.QB rd, rt, sa` (R372). -/
  | shllQb (rd rt : Reg) (sa : Nat)
  /-- `SHRL.QB rd, rt, sa` (R384). -/
  | shrlQb (rd rt : Reg) (sa : Nat)
  /-- `SHLLV.QB rd, rt, rs` (R373). -/
  | shllvQb (rd rt rs : Reg)
  /-- `SHRLV.QB rd, rt, rs` (R385). -/
  | shrlvQb (rd rt rs : Reg)
  /-- `SHRA.QB rd, rt, sa` (R388). -/
  | shraQb (rd rt : Reg) (sa : Nat)
  /-- `SHRA_R.QB rd, rt, sa` (R389). -/
  | shraRQb (rd rt : Reg) (sa : Nat)
  /-- `SHRAV.QB rd, rt, rs` (R390). -/
  | shravQb (rd rt rs : Reg)
  /-- `SHRAV_R.QB rd, rt, rs` (R391). -/
  | shravRQb (rd rt rs : Reg)
  /-- `SHLL.PH rd, rt, sa` (R376). -/
  | shllPh (rd rt : Reg) (sa : Nat)
  /-- `SHRA.PH rd, rt, sa` (R394). -/
  | shraPh (rd rt : Reg) (sa : Nat)
  /-- `SHLLV.PH rd, rt, rs` (R378). -/
  | shllvPh (rd rt rs : Reg)
  /-- `SHRAV.PH rd, rt, rs` (R396). -/
  | shravPh (rd rt rs : Reg)
  /-- `SHLL_S.PH rd, rt, sa` (R377). -/
  | shllSPh (rd rt : Reg) (sa : Nat)
  /-- `SHRA_R.PH rd, rt, sa` (R395). -/
  | shraRPh (rd rt : Reg) (sa : Nat)
  /-- `SHLLV_S.PH rd, rt, rs` (R379). -/
  | shllvSPh (rd rt rs : Reg)
  /-- `SHRAV_R.PH rd, rt, rs` (R397). -/
  | shravRPh (rd rt rs : Reg)
  /-- `SHLL_S.W rd, rt, sa` (R381). -/
  | shllSW (rd rt : Reg) (sa : Nat)
  /-- `SHRA_R.W rd, rt, sa` (R399). -/
  | shraRW (rd rt : Reg) (sa : Nat)
  /-- `SHLLV_S.W rd, rt, rs` (R382). -/
  | shllvSW (rd rt rs : Reg)
  /-- `SHRAV_R.W rd, rt, rs` (R400). -/
  | shravRW (rd rt rs : Reg)
  /-- `SHRL.PH rd, rt, sa` (R386). -/
  | shrlPh (rd rt : Reg) (sa : Nat)
  /-- `SHRLV.PH rd, rt, rs` (R387). -/
  | shrlvPh (rd rt rs : Reg)
  /-- `ADDUH.QB rd, rs, rt` (R121). -/
  | adduhQb (rd rs rt : Reg)
  /-- `SUBUH.QB rd, rs, rt` (R136). -/
  | subuhQb (rd rs rt : Reg)
  /-- `ADDUH_R.QB rd, rs, rt` (R122). -/
  | adduhRQb (rd rs rt : Reg)
  /-- `SUBUH_R.QB rd, rs, rt` (R137). -/
  | subuhRQb (rd rs rt : Reg)
  /-- `ADDQH.PH rd, rs, rt` (R111). -/
  | addqhPh (rd rs rt : Reg)
  /-- `SUBQH.PH rd, rs, rt` (R128). -/
  | subqhPh (rd rs rt : Reg)
  /-- `ADDQH_R.PH rd, rs, rt` (R112). -/
  | addqhRPh (rd rs rt : Reg)
  /-- `SUBQH_R.PH rd, rs, rt` (R129). -/
  | subqhRPh (rd rs rt : Reg)
  /-- `MUL.PH rd, rs, rt` (R364). -/
  | mulPh (rd rs rt : Reg)
  /-- `MUL_S.PH rd, rs, rt` (R365). -/
  | mulSPh (rd rs rt : Reg)
  /-- `ADDQH.W rd, rs, rt` (R113). -/
  | addqhW (rd rs rt : Reg)
  /-- `SUBQH.W rd, rs, rt` (R130). -/
  | subqhW (rd rs rt : Reg)
  /-- `ADDQH_R.W rd, rs, rt` (R114). -/
  | addqhRW (rd rs rt : Reg)
  /-- `SUBQH_R.W rd, rs, rt` (R131). -/
  | subqhRW (rd rs rt : Reg)
  /-- `MULQ_S.W rd, rs, rt` (R361). -/
  | mulqSW (rd rs rt : Reg)
  /-- `MULQ_RS.W rd, rs, rt` (R362). -/
  | mulqRsW (rd rs rt : Reg)
  /-- `DPA.W.PH ac, rs, rt` (R236). -/
  | dpaWPh (ac : Acc) (rs rt : Reg)
  /-- `DPS.W.PH ac, rs, rt` (R237). -/
  | dpsWPh (ac : Acc) (rs rt : Reg)
  /-- `MULSA.W.PH ac, rs, rt` (R252). -/
  | mulsaWPh (ac : Acc) (rs rt : Reg)
  /-- `DPAU.H.QBL ac, rs, rt` (R240). -/
  | dpauHQbl (ac : Acc) (rs rt : Reg)
  /-- `DPAQ_S.W.PH ac, rs, rt` (R244). -/
  | dpaqSWPh (ac : Acc) (rs rt : Reg)
  /-- `DPSQ_S.W.PH ac, rs, rt` (R245). -/
  | dpsqSWPh (ac : Acc) (rs rt : Reg)
  /-- `MULSAQ_S.W.PH ac, rs, rt` (R253). -/
  | mulsaqSWPh (ac : Acc) (rs rt : Reg)
  /-- `DPAU.H.QBR ac, rs, rt` (R241). -/
  | dpauHQbr (ac : Acc) (rs rt : Reg)
  /-- `DPAX.W.PH ac, rs, rt` (R238). -/
  | dpaxWPh (ac : Acc) (rs rt : Reg)
  /-- `DPSX.W.PH ac, rs, rt` (R239). -/
  | dpsxWPh (ac : Acc) (rs rt : Reg)
  /-- `DPSU.H.QBL ac, rs, rt` (R242). -/
  | dpsuHQbl (ac : Acc) (rs rt : Reg)
  /-- `DPAQ_SA.L.W ac, rs, rt` (R250). -/
  | dpaqSaLW (ac : Acc) (rs rt : Reg)
  /-- `DPSQ_SA.L.W ac, rs, rt` (R251). -/
  | dpsqSaLW (ac : Acc) (rs rt : Reg)
  /-- `DPSU.H.QBR ac, rs, rt` (R243). -/
  | dpsuHQbr (ac : Acc) (rs rt : Reg)
  /-- `MAQ_SA.W.PHL ac, rs, rt` (R260). -/
  | maqSaWPhl (ac : Acc) (rs rt : Reg)
  /-- `MAQ_SA.W.PHR ac, rs, rt` (R261). -/
  | maqSaWPhr (ac : Acc) (rs rt : Reg)
  /-- `MAQ_S.W.PHL ac, rs, rt` (R258). -/
  | maqSWPhl (ac : Acc) (rs rt : Reg)
  /-- `MAQ_S.W.PHR ac, rs, rt` (R259). -/
  | maqSWPhr (ac : Acc) (rs rt : Reg)
  /-- `DPAQX_S.W.PH ac, rs, rt` (R246). -/
  | dpaqxSWPh (ac : Acc) (rs rt : Reg)
  /-- `DPSQX_S.W.PH ac, rs, rt` (R247). -/
  | dpsqxSWPh (ac : Acc) (rs rt : Reg)
  /-- `DPAQX_SA.W.PH ac, rs, rt` (R248). -/
  | dpaqxSaWPh (ac : Acc) (rs rt : Reg)
  /-- `DPSQX_SA.W.PH ac, rs, rt` (R249). -/
  | dpsqxSaWPh (ac : Acc) (rs rt : Reg)
  /-- `APPEND rt, rs, sa` (R160). -/
  | append (rt rs : Reg) (sa : Nat)
  /-- `PREPEND rt, rs, sa` (R164). -/
  | prepend (rt rs : Reg) (sa : Nat)
  /-- `BALIGN rt, rs, bp` (R161). -/
  | balign (rt rs : Reg) (bp : Nat)
  /-- `EXTR.W rt, ac, shift` (R287). -/
  | extrW (rt : Reg) (ac : Acc) (shift : Nat)
  /-- `EXTRV.W rt, ac, rs` (R290). -/
  | extrvW (rt : Reg) (ac : Acc) (rs : Reg)
  /-- `EXTP rt, ac, size` (R282). -/
  | extp (rt : Reg) (ac : Acc) (size : Nat)
  /-- `EXTPV rt, ac, rs` (R283). -/
  | extpv (rt : Reg) (ac : Acc) (rs : Reg)
  /-- `EXTR_R.W rt, ac, shift` (R288). -/
  | extrRW (rt : Reg) (ac : Acc) (shift : Nat)
  /-- `EXTRV_R.W rt, ac, rs` (R291). -/
  | extrvRW (rt : Reg) (ac : Acc) (rs : Reg)
  /-- `EXTR_RS.W rt, ac, shift` (R289). -/
  | extrRsW (rt : Reg) (ac : Acc) (shift : Nat)
  /-- `EXTRV_RS.W rt, ac, rs` (R292). -/
  | extrvRsW (rt : Reg) (ac : Acc) (rs : Reg)
  /-- `EXTPDP rt, ac, size` (R284). -/
  | extpdp (rt : Reg) (ac : Acc) (size : Nat)
  /-- `EXTPDPV rt, ac, rs` (R285). -/
  | extpdpv (rt : Reg) (ac : Acc) (rs : Reg)
  /-- `EXTR_S.H rt, ac, shift` (R294). -/
  | extrSH (rt : Reg) (ac : Acc) (shift : Nat)
  /-- `EXTRV_S.H rt, ac, rs` (R295). -/
  | extrvSH (rt : Reg) (ac : Acc) (rs : Reg)
  /-- `RDDSP rd, mask` (R310). -/
  | rddsp (rd : Reg) (mask : BitVec 10)
  /-- `WRDSP rs, mask` (R311). -/
  | wrdsp (rs : Reg) (mask : BitVec 10)
  /-- `SHILO ac, shift` (R308). -/
  | shilo (ac : Acc) (shift : BitVec 6)
  /-- `SHILOV ac, rs` (R309). -/
  | shilov (ac : Acc) (rs : Reg)
  /-- `MTHLIP rs, ac` (R301). -/
  | mthlip (rs : Reg) (ac : Acc)
  /-- `LWX rd, index(base)` (R343). -/
  | lwx (rd index base : Reg)
  /-- `LHX rd, index(base)` (R342). -/
  | lhx (rd index base : Reg)
  /-- `LBUX rd, index(base)` (R341). -/
  | lbux (rd index base : Reg)
  /-- `LDX rd, index(base)` (R344). -/
  | ldx (rd index base : Reg)
  /-- `INSV rt, rs` (R166). -/
  | insv (rt rs : Reg)
  /-- `BPOSGE32 offset` (R202). -/
  | bposge32 (offset : BitVec 16)
  /-- `BPOSGE32C offset` (R204). -/
  | bposge32c (offset : BitVec 16)
  /-- `MADD ac, rs, rt` (R302). -/
  | madd (ac : Acc) (rs rt : Reg)
  /-- `MADDU ac, rs, rt` (R303). -/
  | maddu (ac : Acc) (rs rt : Reg)
  /-- `MSUB ac, rs, rt` (R304). -/
  | msub (ac : Acc) (rs rt : Reg)
  /-- `MSUBU ac, rs, rt` (R305). -/
  | msubu (ac : Acc) (rs rt : Reg)
  /-- `MULT ac, rs, rt` (R306). -/
  | mult (ac : Acc) (rs rt : Reg)
  /-- `MULTU ac, rs, rt` (R307). -/
  | multu (ac : Acc) (rs rt : Reg)
  /-- `MFHI rd, ac` (R296). -/
  | mfhi (rd : Reg) (ac : Acc)
  /-- `MFLO rd, ac` (R297). -/
  | mflo (rd : Reg) (ac : Acc)
  /-- `MTHI rs, ac` (R298). -/
  | mthi (rs : Reg) (ac : Acc)
  /-- `MTLO rs, ac` (R299). -/
  | mtlo (rs : Reg) (ac : Acc)
  deriving DecidableEq, Repr

/-- The mnemonic of an instruction, spelled as the opcode table spells it. -/
def Instr.mnemonic : Instr → String
  | .adduQb _ _ _ => "ADDU.QB"
  | .subuQb _ _ _ => "SUBU.QB"
  | .adduSQb _ _ _ => "ADDU_S.QB"
  | .subuSQb _ _ _ => "SUBU_S.QB"
  | .muleuSPhQbl _ _ _ => "MULEU_S.PH.QBL"
  | .muleuSPhQbr _ _ _ => "MULEU_S.PH.QBR"
  | .adduPh _ _ _ => "ADDU.PH"
  | .subuPh _ _ _ => "SUBU.PH"
  | .addqPh _ _ _ => "ADDQ.PH"
  | .subqPh _ _ _ => "SUBQ.PH"
  | .adduSPh _ _ _ => "ADDU_S.PH"
  | .subuSPh _ _ _ => "SUBU_S.PH"
  | .addqSPh _ _ _ => "ADDQ_S.PH"
  | .subqSPh _ _ _ => "SUBQ_S.PH"
  | .addsc _ _ _ => "ADDSC"
  | .addwc _ _ _ => "ADDWC"
  | .modsub _ _ _ => "MODSUB"
  | .addqSW _ _ _ => "ADDQ_S.W"
  | .subqSW _ _ _ => "SUBQ_S.W"
  | .muleqSWPhl _ _ _ => "MULEQ_S.W.PHL"
  | .muleqSWPhr _ _ _ => "MULEQ_S.W.PHR"
  | .mulqSPh _ _ _ => "MULQ_S.PH"
  | .mulqRsPh _ _ _ => "MULQ_RS.PH"
  | .radduWQb _ _ => "RADDU.W.QB"
  | .cmpuEqQb _ _ => "CMPU.EQ.QB"
  | .cmpuLtQb _ _ => "CMPU.LT.QB"
  | .cmpuLeQb _ _ => "CMPU.LE.QB"
  | .pickQb _ _ _ => "PICK.QB"
  | .cmpguEqQb _ _ _ => "CMPGU.EQ.QB"
  | .cmpguLtQb _ _ _ => "CMPGU.LT.QB"
  | .cmpguLeQb _ _ _ => "CMPGU.LE.QB"
  | .cmpEqPh _ _ => "CMP.EQ.PH"
  | .cmpLtPh _ _ => "CMP.LT.PH"
  | .cmpLePh _ _ => "CMP.LE.PH"
  | .pickPh _ _ _ => "PICK.PH"
  | .precrqQbPh _ _ _ => "PRECRQ.QB.PH"
  | .precrQbPh _ _ _ => "PRECR.QB.PH"
  | .packrlPh _ _ _ => "PACKRL.PH"
  | .precrquSQbPh _ _ _ => "PRECRQU_S.QB.PH"
  | .precrqPhW _ _ _ => "PRECRQ.PH.W"
  | .precrqRsPhW _ _ _ => "PRECRQ_RS.PH.W"
  | .cmpgduEqQb _ _ _ => "CMPGDU.EQ.QB"
  | .cmpgduLtQb _ _ _ => "CMPGDU.LT.QB"
  | .cmpgduLeQb _ _ _ => "CMPGDU.LE.QB"
  | .precrSraPhW _ _ _ => "PRECR_SRA.PH.W"
  | .precrSraRPhW _ _ _ => "PRECR_SRA_R.PH.W"
  | .absqSQb _ _ => "ABSQ_S.QB"
  | .replQb _ _ => "REPL.QB"
  | .replvQb _ _ => "REPLV.QB"
  | .precequPhQbl _ _ => "PRECEQU.PH.QBL"
  | .precequPhQbr _ _ => "PRECEQU.PH.QBR"
  | .precequPhQbla _ _ => "PRECEQU.PH.QBLA"
  | .precequPhQbra _ _ => "PRECEQU.PH.QBRA"
  | .absqSPh _ _ => "ABSQ_S.PH"
  | .replPh _ _ => "REPL.PH"
  | .replvPh _ _ => "REPLV.PH"
  | .preceqWPhl _ _ => "PRECEQ.W.PHL"
  | .preceqWPhr _ _ => "PRECEQ.W.PHR"
  | .absqSW _ _ => "ABSQ_S.W"
  | .bitrev _ _ => "BITREV"
  | .preceuPhQbl _ _ => "PRECEU.PH.QBL"
  | .preceuPhQbr _ _ => "PRECEU.PH.QBR"
  | .preceuPhQbla _ _ => "PRECEU.PH.QBLA"
  | .preceuPhQbra _ _ => "PRECEU.PH.QBRA"
  | .shllQb _ _ _ => "SHLL.QB"
  | .shrlQb _ _ _ => "SHRL.QB"
  | .shllvQb _ _ _ => "SHLLV.QB"
  | .shrlvQb _ _ _ => "SHRLV.QB"
  | .shraQb _ _ _ => "SHRA.QB"
  | .shraRQb _ _ _ => "SHRA_R.QB"
  | .shravQb _ _ _ => "SHRAV.QB"
  | .shravRQb _ _ _ => "SHRAV_R.QB"
  | .shllPh _ _ _ => "SHLL.PH"
  | .shraPh _ _ _ => "SHRA.PH"
  | .shllvPh _ _ _ => "SHLLV.PH"
  | .shravPh _ _ _ => "SHRAV.PH"
  | .shllSPh _ _ _ => "SHLL_S.PH"
  | .shraRPh _ _ _ => "SHRA_R.PH"
  | .shllvSPh _ _ _ => "SHLLV_S.PH"
  | .shravRPh _ _ _ => "SHRAV_R.PH"
  | .shllSW _ _ _ => "SHLL_S.W"
  | .shraRW _ _ _ => "SHRA_R.W"
  | .shllvSW _ _ _ => "SHLLV_S.W"
  | .shravRW _ _ _ => "SHRAV_R.W"
  | .shrlPh _ _ _ => "SHRL.PH"
  | .shrlvPh _ _ _ => "SHRLV.PH"
  | .adduhQb _ _ _ => "ADDUH.QB"
  | .subuhQb _ _ _ => "SUBUH.QB"
  | .adduhRQb _ _ _ => "ADDUH_R.QB"
  | .subuhRQb _ _ _ => "SUBUH_R.QB"
  | .addqhPh _ _ _ => "ADDQH.PH"
  | .subqhPh _ _ _ => "SUBQH.PH"
  | .addqhRPh _ _ _ => "ADDQH_R.PH"
  | .subqhRPh _ _ _ => "SUBQH_R.PH"
  | .mulPh _ _ _ => "MUL.PH"
  | .mulSPh _ _ _ => "MUL_S.PH"
  | .addqhW _ _ _ => "ADDQH.W"
  | .subqhW _ _ _ => "SUBQH.W"
  | .addqhRW _ _ _ => "ADDQH_R.W"
  | .subqhRW _ _ _ => "SUBQH_R.W"
  | .mulqSW _ _ _ => "MULQ_S.W"
  | .mulqRsW _ _ _ => "MULQ_RS.W"
  | .dpaWPh _ _ _ => "DPA.W.PH"
  | .dpsWPh _ _ _ => "DPS.W.PH"
  | .mulsaWPh _ _ _ => "MULSA.W.PH"
  | .dpauHQbl _ _ _ => "DPAU.H.QBL"
  | .dpaqSWPh _ _ _ => "DPAQ_S.W.PH"
  | .dpsqSWPh _ _ _ => "DPSQ_S.W.PH"
  | .mulsaqSWPh _ _ _ => "MULSAQ_S.W.PH"
  | .dpauHQbr _ _ _ => "DPAU.H.QBR"
  | .dpaxWPh _ _ _ => "DPAX.W.PH"
  | .dpsxWPh _ _ _ => "DPSX.W.PH"
  | .dpsuHQbl _ _ _ => "DPSU.H.QBL"
  | .dpaqSaLW _ _ _ => "DPAQ_SA.L.W"
  | .dpsqSaLW _ _ _ => "DPSQ_SA.L.W"
  | .dpsuHQbr _ _ _ => "DPSU.H.QBR"
  | .maqSaWPhl _ _ _ => "MAQ_SA.W.PHL"
  | .maqSaWPhr _ _ _ => "MAQ_SA.W.PHR"
  | .maqSWPhl _ _ _ => "MAQ_S.W.PHL"
  | .maqSWPhr _ _ _ => "MAQ_S.W.PHR"
  | .dpaqxSWPh _ _ _ => "DPAQX_S.W.PH"
  | .dpsqxSWPh _ _ _ => "DPSQX_S.W.PH"
  | .dpaqxSaWPh _ _ _ => "DPAQX_SA.W.PH"
  | .dpsqxSaWPh _ _ _ => "DPSQX_SA.W.PH"
  | .append _ _ _ => "APPEND"
  | .prepend _ _ _ => "PREPEND"
  | .balign _ _ _ => "BALIGN"
  | .extrW _ _ _ => "EXTR.W"
  | .extrvW _ _ _ => "EXTRV.W"
  | .extp _ _ _ => "EXTP"
  | .extpv _ _ _ => "EXTPV"
  | .extrRW _ _ _ => "EXTR_R.W"
  | .extrvRW _ _ _ => "EXTRV_R.W"
  | .extrRsW _ _ _ => "EXTR_RS.W"
  | .extrvRsW _ _ _ => "EXTRV_RS.W"
  | .extpdp _ _ _ => "EXTPDP"
  | .extpdpv _ _ _ => "EXTPDPV"
  | .extrSH _ _ _ => "EXTR_S.H"
  | .extrvSH _ _ _ => "EXTRV_S.H"
  | .rddsp _ _ => "RDDSP"
  | .wrdsp _ _ => "WRDSP"
  | .shilo _ _ => "SHILO"
  | .shilov _ _ => "SHILOV"
  | .mthlip _ _ => "MTHLIP"
  | .lwx _ _ _ => "LWX"
  | .lhx _ _ _ => "LHX"
  | .lbux _ _ _ => "LBUX"
  | .ldx _ _ _ => "LDX"
  | .insv _ _ => "INSV"
  | .bposge32 _ => "BPOSGE32"
  | .bposge32c _ => "BPOSGE32C"
  | .madd _ _ _ => "MADD"
  | .maddu _ _ _ => "MADDU"
  | .msub _ _ _ => "MSUB"
  | .msubu _ _ _ => "MSUBU"
  | .mult _ _ _ => "MULT"
  | .multu _ _ _ => "MULTU"
  | .mfhi _ _ => "MFHI"
  | .mflo _ _ => "MFLO"
  | .mthi _ _ => "MTHI"
  | .mtlo _ _ => "MTLO"

/-- The availability tag of an instruction's page (the `isa` member of its row, `60_exceptions.md` R413). -/
def Instr.isaTag : Instr → IsaTag
  | .adduQb _ _ _ => .dsp
  | .subuQb _ _ _ => .dsp
  | .adduSQb _ _ _ => .dsp
  | .subuSQb _ _ _ => .dsp
  | .muleuSPhQbl _ _ _ => .dsp
  | .muleuSPhQbr _ _ _ => .dsp
  | .adduPh _ _ _ => .dspR2
  | .subuPh _ _ _ => .dspR2
  | .addqPh _ _ _ => .dsp
  | .subqPh _ _ _ => .dsp
  | .adduSPh _ _ _ => .dspR2
  | .subuSPh _ _ _ => .dspR2
  | .addqSPh _ _ _ => .dsp
  | .subqSPh _ _ _ => .dsp
  | .addsc _ _ _ => .dsp
  | .addwc _ _ _ => .dsp
  | .modsub _ _ _ => .dsp
  | .addqSW _ _ _ => .dsp
  | .subqSW _ _ _ => .dsp
  | .muleqSWPhl _ _ _ => .dsp
  | .muleqSWPhr _ _ _ => .dsp
  | .mulqSPh _ _ _ => .dspR2
  | .mulqRsPh _ _ _ => .dsp
  | .radduWQb _ _ => .dsp
  | .cmpuEqQb _ _ => .dsp
  | .cmpuLtQb _ _ => .dsp
  | .cmpuLeQb _ _ => .dsp
  | .pickQb _ _ _ => .dsp
  | .cmpguEqQb _ _ _ => .dsp
  | .cmpguLtQb _ _ _ => .dsp
  | .cmpguLeQb _ _ _ => .dsp
  | .cmpEqPh _ _ => .dsp
  | .cmpLtPh _ _ => .dsp
  | .cmpLePh _ _ => .dsp
  | .pickPh _ _ _ => .dsp
  | .precrqQbPh _ _ _ => .dsp
  | .precrQbPh _ _ _ => .dspR2
  | .packrlPh _ _ _ => .dsp
  | .precrquSQbPh _ _ _ => .dsp
  | .precrqPhW _ _ _ => .dsp
  | .precrqRsPhW _ _ _ => .dsp
  | .cmpgduEqQb _ _ _ => .dspR2
  | .cmpgduLtQb _ _ _ => .dspR2
  | .cmpgduLeQb _ _ _ => .dspR2
  | .precrSraPhW _ _ _ => .dspR2
  | .precrSraRPhW _ _ _ => .dspR2
  | .absqSQb _ _ => .dspR2
  | .replQb _ _ => .dsp
  | .replvQb _ _ => .dsp
  | .precequPhQbl _ _ => .dsp
  | .precequPhQbr _ _ => .dsp
  | .precequPhQbla _ _ => .dsp
  | .precequPhQbra _ _ => .dsp
  | .absqSPh _ _ => .dsp
  | .replPh _ _ => .dsp
  | .replvPh _ _ => .dsp
  | .preceqWPhl _ _ => .dsp
  | .preceqWPhr _ _ => .dsp
  | .absqSW _ _ => .dsp
  | .bitrev _ _ => .dsp
  | .preceuPhQbl _ _ => .dsp
  | .preceuPhQbr _ _ => .dsp
  | .preceuPhQbla _ _ => .dsp
  | .preceuPhQbra _ _ => .dsp
  | .shllQb _ _ _ => .dsp
  | .shrlQb _ _ _ => .dsp
  | .shllvQb _ _ _ => .dsp
  | .shrlvQb _ _ _ => .dsp
  | .shraQb _ _ _ => .dspR2
  | .shraRQb _ _ _ => .dspR2
  | .shravQb _ _ _ => .dspR2
  | .shravRQb _ _ _ => .dspR2
  | .shllPh _ _ _ => .dsp
  | .shraPh _ _ _ => .dsp
  | .shllvPh _ _ _ => .dsp
  | .shravPh _ _ _ => .dsp
  | .shllSPh _ _ _ => .dsp
  | .shraRPh _ _ _ => .dsp
  | .shllvSPh _ _ _ => .dsp
  | .shravRPh _ _ _ => .dsp
  | .shllSW _ _ _ => .dsp
  | .shraRW _ _ _ => .dsp
  | .shllvSW _ _ _ => .dsp
  | .shravRW _ _ _ => .dsp
  | .shrlPh _ _ _ => .dspR2
  | .shrlvPh _ _ _ => .dspR2
  | .adduhQb _ _ _ => .dspR2
  | .subuhQb _ _ _ => .dspR2
  | .adduhRQb _ _ _ => .dspR2
  | .subuhRQb _ _ _ => .dspR2
  | .addqhPh _ _ _ => .dspR2
  | .subqhPh _ _ _ => .dspR2
  | .addqhRPh _ _ _ => .dspR2
  | .subqhRPh _ _ _ => .dspR2
  | .mulPh _ _ _ => .dspR2
  | .mulSPh _ _ _ => .dspR2
  | .addqhW _ _ _ => .dspR2
  | .subqhW _ _ _ => .dspR2
  | .addqhRW _ _ _ => .dspR2
  | .subqhRW _ _ _ => .dspR2
  | .mulqSW _ _ _ => .dspR2
  | .mulqRsW _ _ _ => .dspR2
  | .dpaWPh _ _ _ => .dspR2
  | .dpsWPh _ _ _ => .dspR2
  | .mulsaWPh _ _ _ => .dspR2
  | .dpauHQbl _ _ _ => .dsp
  | .dpaqSWPh _ _ _ => .dsp
  | .dpsqSWPh _ _ _ => .dsp
  | .mulsaqSWPh _ _ _ => .dsp
  | .dpauHQbr _ _ _ => .dsp
  | .dpaxWPh _ _ _ => .dspR2
  | .dpsxWPh _ _ _ => .dspR2
  | .dpsuHQbl _ _ _ => .dsp
  | .dpaqSaLW _ _ _ => .dsp
  | .dpsqSaLW _ _ _ => .dsp
  | .dpsuHQbr _ _ _ => .dsp
  | .maqSaWPhl _ _ _ => .dsp
  | .maqSaWPhr _ _ _ => .dsp
  | .maqSWPhl _ _ _ => .dsp
  | .maqSWPhr _ _ _ => .dsp
  | .dpaqxSWPh _ _ _ => .dspR2
  | .dpsqxSWPh _ _ _ => .dspR2
  | .dpaqxSaWPh _ _ _ => .dspR2
  | .dpsqxSaWPh _ _ _ => .dspR2
  | .append _ _ _ => .dspR2
  | .prepend _ _ _ => .dspR2
  | .balign _ _ _ => .dspR2
  | .extrW _ _ _ => .dsp
  | .extrvW _ _ _ => .dsp
  | .extp _ _ _ => .dsp
  | .extpv _ _ _ => .dsp
  | .extrRW _ _ _ => .dsp
  | .extrvRW _ _ _ => .dsp
  | .extrRsW _ _ _ => .dsp
  | .extrvRsW _ _ _ => .dsp
  | .extpdp _ _ _ => .dsp
  | .extpdpv _ _ _ => .dsp
  | .extrSH _ _ _ => .dsp
  | .extrvSH _ _ _ => .dsp
  | .rddsp _ _ => .dsp
  | .wrdsp _ _ => .dsp
  | .shilo _ _ => .dsp
  | .shilov _ _ => .dsp
  | .mthlip _ _ => .dsp
  | .lwx _ _ _ => .dsp
  | .lhx _ _ _ => .dsp
  | .lbux _ _ _ => .dsp
  | .ldx _ _ _ => .dsp
  | .insv _ _ => .dsp
  | .bposge32 _ => .dsp
  | .bposge32c _ => .dspR3
  | .madd _ _ _ => .preR6
  | .maddu _ _ _ => .preR6
  | .msub _ _ _ => .preR6
  | .msubu _ _ _ => .preR6
  | .mult _ _ _ => .preR6
  | .multu _ _ _ => .preR6
  | .mfhi _ _ => .preR6
  | .mflo _ _ => .preR6
  | .mthi _ _ => .preR6
  | .mtlo _ _ => .preR6

end Sys2Proof
end

