-- ==== Sys2Proof/WellFormed.lean ====
section
/-!
DEFINITION. Well-formed instructions: every unsigned amount is in the range of its field (`30_encoding.md` R87).
Register and accumulator numbers, immediates and masks are in range by their types.
-/

namespace Sys2Proof

/-- Is every amount in the range its field can hold (R87)? -/
def Instr.wellFormed : Instr → Bool
  | .adduQb _ _ _ => true
  | .subuQb _ _ _ => true
  | .adduSQb _ _ _ => true
  | .subuSQb _ _ _ => true
  | .muleuSPhQbl _ _ _ => true
  | .muleuSPhQbr _ _ _ => true
  | .adduPh _ _ _ => true
  | .subuPh _ _ _ => true
  | .addqPh _ _ _ => true
  | .subqPh _ _ _ => true
  | .adduSPh _ _ _ => true
  | .subuSPh _ _ _ => true
  | .addqSPh _ _ _ => true
  | .subqSPh _ _ _ => true
  | .addsc _ _ _ => true
  | .addwc _ _ _ => true
  | .modsub _ _ _ => true
  | .addqSW _ _ _ => true
  | .subqSW _ _ _ => true
  | .muleqSWPhl _ _ _ => true
  | .muleqSWPhr _ _ _ => true
  | .mulqSPh _ _ _ => true
  | .mulqRsPh _ _ _ => true
  | .radduWQb _ _ => true
  | .cmpuEqQb _ _ => true
  | .cmpuLtQb _ _ => true
  | .cmpuLeQb _ _ => true
  | .pickQb _ _ _ => true
  | .cmpguEqQb _ _ _ => true
  | .cmpguLtQb _ _ _ => true
  | .cmpguLeQb _ _ _ => true
  | .cmpEqPh _ _ => true
  | .cmpLtPh _ _ => true
  | .cmpLePh _ _ => true
  | .pickPh _ _ _ => true
  | .precrqQbPh _ _ _ => true
  | .precrQbPh _ _ _ => true
  | .packrlPh _ _ _ => true
  | .precrquSQbPh _ _ _ => true
  | .precrqPhW _ _ _ => true
  | .precrqRsPhW _ _ _ => true
  | .cmpgduEqQb _ _ _ => true
  | .cmpgduLtQb _ _ _ => true
  | .cmpgduLeQb _ _ _ => true
  | .precrSraPhW _ _ sa => decide (sa < 32)
  | .precrSraRPhW _ _ sa => decide (sa < 32)
  | .absqSQb _ _ => true
  | .replQb _ _ => true
  | .replvQb _ _ => true
  | .precequPhQbl _ _ => true
  | .precequPhQbr _ _ => true
  | .precequPhQbla _ _ => true
  | .precequPhQbra _ _ => true
  | .absqSPh _ _ => true
  | .replPh _ _ => true
  | .replvPh _ _ => true
  | .preceqWPhl _ _ => true
  | .preceqWPhr _ _ => true
  | .absqSW _ _ => true
  | .bitrev _ _ => true
  | .preceuPhQbl _ _ => true
  | .preceuPhQbr _ _ => true
  | .preceuPhQbla _ _ => true
  | .preceuPhQbra _ _ => true
  | .shllQb _ _ sa => decide (sa < 8)
  | .shrlQb _ _ sa => decide (sa < 8)
  | .shllvQb _ _ _ => true
  | .shrlvQb _ _ _ => true
  | .shraQb _ _ sa => decide (sa < 8)
  | .shraRQb _ _ sa => decide (sa < 8)
  | .shravQb _ _ _ => true
  | .shravRQb _ _ _ => true
  | .shllPh _ _ sa => decide (sa < 16)
  | .shraPh _ _ sa => decide (sa < 16)
  | .shllvPh _ _ _ => true
  | .shravPh _ _ _ => true
  | .shllSPh _ _ sa => decide (sa < 16)
  | .shraRPh _ _ sa => decide (sa < 16)
  | .shllvSPh _ _ _ => true
  | .shravRPh _ _ _ => true
  | .shllSW _ _ sa => decide (sa < 32)
  | .shraRW _ _ sa => decide (sa < 32)
  | .shllvSW _ _ _ => true
  | .shravRW _ _ _ => true
  | .shrlPh _ _ sa => decide (sa < 16)
  | .shrlvPh _ _ _ => true
  | .adduhQb _ _ _ => true
  | .subuhQb _ _ _ => true
  | .adduhRQb _ _ _ => true
  | .subuhRQb _ _ _ => true
  | .addqhPh _ _ _ => true
  | .subqhPh _ _ _ => true
  | .addqhRPh _ _ _ => true
  | .subqhRPh _ _ _ => true
  | .mulPh _ _ _ => true
  | .mulSPh _ _ _ => true
  | .addqhW _ _ _ => true
  | .subqhW _ _ _ => true
  | .addqhRW _ _ _ => true
  | .subqhRW _ _ _ => true
  | .mulqSW _ _ _ => true
  | .mulqRsW _ _ _ => true
  | .dpaWPh _ _ _ => true
  | .dpsWPh _ _ _ => true
  | .mulsaWPh _ _ _ => true
  | .dpauHQbl _ _ _ => true
  | .dpaqSWPh _ _ _ => true
  | .dpsqSWPh _ _ _ => true
  | .mulsaqSWPh _ _ _ => true
  | .dpauHQbr _ _ _ => true
  | .dpaxWPh _ _ _ => true
  | .dpsxWPh _ _ _ => true
  | .dpsuHQbl _ _ _ => true
  | .dpaqSaLW _ _ _ => true
  | .dpsqSaLW _ _ _ => true
  | .dpsuHQbr _ _ _ => true
  | .maqSaWPhl _ _ _ => true
  | .maqSaWPhr _ _ _ => true
  | .maqSWPhl _ _ _ => true
  | .maqSWPhr _ _ _ => true
  | .dpaqxSWPh _ _ _ => true
  | .dpsqxSWPh _ _ _ => true
  | .dpaqxSaWPh _ _ _ => true
  | .dpsqxSaWPh _ _ _ => true
  | .append _ _ sa => decide (sa < 32)
  | .prepend _ _ sa => decide (sa < 32)
  | .balign _ _ bp => decide (bp < 4)
  | .extrW _ _ shift => decide (shift < 32)
  | .extrvW _ _ _ => true
  | .extp _ _ size => decide (size < 32)
  | .extpv _ _ _ => true
  | .extrRW _ _ shift => decide (shift < 32)
  | .extrvRW _ _ _ => true
  | .extrRsW _ _ shift => decide (shift < 32)
  | .extrvRsW _ _ _ => true
  | .extpdp _ _ size => decide (size < 32)
  | .extpdpv _ _ _ => true
  | .extrSH _ _ shift => decide (shift < 32)
  | .extrvSH _ _ _ => true
  | .rddsp _ _ => true
  | .wrdsp _ _ => true
  | .shilo _ _ => true
  | .shilov _ _ => true
  | .mthlip _ _ => true
  | .lwx _ _ _ => true
  | .lhx _ _ _ => true
  | .lbux _ _ _ => true
  | .ldx _ _ _ => true
  | .insv _ _ => true
  | .bposge32 _ => true
  | .bposge32c _ => true
  | .madd _ _ _ => true
  | .maddu _ _ _ => true
  | .msub _ _ _ => true
  | .msubu _ _ _ => true
  | .mult _ _ _ => true
  | .multu _ _ _ => true
  | .mfhi _ _ => true
  | .mflo _ _ => true
  | .mthi _ _ => true
  | .mtlo _ _ => true

end Sys2Proof
end

