-- ==== Sys2Proof/Decode.lean ====
section
/-!
DEFINITION. Decoding and encoding (`30_encoding.md`). A word is cut once into the six fields that every format of
R71 is made of, `[31:26] [25:21] [20:16] [15:11] [10:6] [5:0]`, called `op a b c d f` here. The major opcode selects
a group (R72), bits 5..0 a class (R73), and bits 10..6 the instruction (R74 to R86). A word that no table lists is
rejected as `unassigned` (R93 a); one whose selecting bits are listed but whose must-be-zero field is not zero is
rejected as `reservedField` (R88). Both raise Reserved Instruction in the machine (`60_exceptions.md` R414 a, b).

After the decoder: the encoder, written from the same figures, and the opcode table's rows as data.
-/

namespace Sys2Proof

/-- Why a word is no instruction. -/
inductive DecodeError where
  /-- The selecting bits are in no table of `30_encoding.md` (R93 a). -/
  | unassigned
  /-- A field the figure prints as zeros is not zero (R88). -/
  | reservedField
  /-- Fewer than four bytes were given (R70: every instruction is one 32-bit word). -/
  | truncated
  deriving DecidableEq, Repr

abbrev Decoded := Except DecodeError Instr

/-! ### Byte order (`20_memory.md` R52) -/

/-- Two equal parts of a value, the part at the lower address first: least significant first when `be` is false,
most significant first when it is true. -/
def joinOrdered {n : Nat} (be : Bool) (lower upper : BitVec n) : BitVec (n + n) :=
  if be then lower ++ upper else upper ++ lower

/-- The word made of four bytes, the byte at the lowest address first. -/
def wordOfBytes (be : Bool) (b0 b1 b2 b3 : Byte) : Word :=
  joinOrdered be (joinOrdered be b0 b1) (joinOrdered be b2 b3)

/-- Byte `k` of a word as memory holds it: the byte at offset `k` from the word's address. -/
def byteOfWord (be : Bool) (w : Word) (k : Nat) : Byte :=
  if be then w.extractLsb' (8 * (3 - k)) 8 else w.extractLsb' (8 * k) 8

/-! ### The six fields of a word -/

/-- Bits 31..26, the major opcode. -/
def fieldOp (w : Word) : BitVec 6 := w.extractLsb' 26 6
/-- Bits 25..21. -/
def fieldA (w : Word) : BitVec 5 := w.extractLsb' 21 5
/-- Bits 20..16. -/
def fieldB (w : Word) : BitVec 5 := w.extractLsb' 16 5
/-- Bits 15..11. -/
def fieldC (w : Word) : BitVec 5 := w.extractLsb' 11 5
/-- Bits 10..6. -/
def fieldD (w : Word) : BitVec 5 := w.extractLsb' 6 5
/-- Bits 5..0. -/
def fieldF (w : Word) : BitVec 6 := w.extractLsb' 0 6

/-- The word whose six fields are given, bits 31..26 first. -/
def instrWord (op : BitVec 6) (a b c d : BitVec 5) (f : BitVec 6) : Word := op ++ a ++ b ++ c ++ d ++ f

def high1 (x : BitVec 5) : BitVec 1 := x.extractLsb' 4 1
def high2 (x : BitVec 5) : BitVec 2 := x.extractLsb' 3 2
def high3 (x : BitVec 5) : BitVec 3 := x.extractLsb' 2 3
def low2 (x : BitVec 5) : BitVec 2 := x.extractLsb' 0 2
def low3 (x : BitVec 5) : BitVec 3 := x.extractLsb' 0 3
def low4 (x : BitVec 5) : BitVec 4 := x.extractLsb' 0 4

/-- A five-bit field read as a register number. -/
def reg (x : BitVec 5) : Reg := x.toFin
/-- A five-bit field whose low two bits are an accumulator number (the upper three must be zero). -/
def acc (x : BitVec 5) : Acc := (low2 x).toFin
/-- The five-bit field of a register number. -/
def regField (r : Reg) : BitVec 5 := BitVec.ofFin r
/-- The five-bit field `000 || ac`. -/
def accField (a : Acc) : BitVec 5 := 0#3 ++ (BitVec.ofFin a : BitVec 2)

/-- An instruction whose must-be-zero fields are zero exactly when `z` holds (R88). -/
def zeroFields (z : Prop) [Decidable z] (i : Instr) : Decoded :=
  if z then .ok i else .error .reservedField

/-! ### The classes -/

/-- indexed loads, SPECIAL3 function 001010 (R82); selected by bits 10..6. -/
def decodeLX (a b c d : BitVec 5) : Decoded :=
  match d.toNat with
  | 0b00000 => .ok (.lwx (reg c) (reg b) (reg a))
  | 0b00100 => .ok (.lhx (reg c) (reg b) (reg a))
  | 0b00110 => .ok (.lbux (reg c) (reg b) (reg a))
  | 0b01000 => .ok (.ldx (reg c) (reg b) (reg a))
  | _ => .error .unassigned

/-- ADDU.QB class, SPECIAL3 function 010000 (R74); selected by bits 10..6. -/
def decodeAdduQb (a b c d : BitVec 5) : Decoded :=
  match d.toNat with
  | 0b00000 => .ok (.adduQb (reg c) (reg a) (reg b))
  | 0b00001 => .ok (.subuQb (reg c) (reg a) (reg b))
  | 0b00100 => .ok (.adduSQb (reg c) (reg a) (reg b))
  | 0b00101 => .ok (.subuSQb (reg c) (reg a) (reg b))
  | 0b00110 => .ok (.muleuSPhQbl (reg c) (reg a) (reg b))
  | 0b00111 => .ok (.muleuSPhQbr (reg c) (reg a) (reg b))
  | 0b01000 => .ok (.adduPh (reg c) (reg a) (reg b))
  | 0b01001 => .ok (.subuPh (reg c) (reg a) (reg b))
  | 0b01010 => .ok (.addqPh (reg c) (reg a) (reg b))
  | 0b01011 => .ok (.subqPh (reg c) (reg a) (reg b))
  | 0b01100 => .ok (.adduSPh (reg c) (reg a) (reg b))
  | 0b01101 => .ok (.subuSPh (reg c) (reg a) (reg b))
  | 0b01110 => .ok (.addqSPh (reg c) (reg a) (reg b))
  | 0b01111 => .ok (.subqSPh (reg c) (reg a) (reg b))
  | 0b10000 => .ok (.addsc (reg c) (reg a) (reg b))
  | 0b10001 => .ok (.addwc (reg c) (reg a) (reg b))
  | 0b10010 => .ok (.modsub (reg c) (reg a) (reg b))
  | 0b10100 => zeroFields (b = 0#5) (.radduWQb (reg c) (reg a))
  | 0b10110 => .ok (.addqSW (reg c) (reg a) (reg b))
  | 0b10111 => .ok (.subqSW (reg c) (reg a) (reg b))
  | 0b11100 => .ok (.muleqSWPhl (reg c) (reg a) (reg b))
  | 0b11101 => .ok (.muleqSWPhr (reg c) (reg a) (reg b))
  | 0b11110 => .ok (.mulqSPh (reg c) (reg a) (reg b))
  | 0b11111 => .ok (.mulqRsPh (reg c) (reg a) (reg b))
  | _ => .error .unassigned

/-- CMPU.EQ.QB class, SPECIAL3 function 010001 (R75); selected by bits 10..6. -/
def decodeCmpuEqQb (a b c d : BitVec 5) : Decoded :=
  match d.toNat with
  | 0b00000 => zeroFields (c = 0#5) (.cmpuEqQb (reg a) (reg b))
  | 0b00001 => zeroFields (c = 0#5) (.cmpuLtQb (reg a) (reg b))
  | 0b00010 => zeroFields (c = 0#5) (.cmpuLeQb (reg a) (reg b))
  | 0b00011 => .ok (.pickQb (reg c) (reg a) (reg b))
  | 0b00100 => .ok (.cmpguEqQb (reg c) (reg a) (reg b))
  | 0b00101 => .ok (.cmpguLtQb (reg c) (reg a) (reg b))
  | 0b00110 => .ok (.cmpguLeQb (reg c) (reg a) (reg b))
  | 0b01000 => zeroFields (c = 0#5) (.cmpEqPh (reg a) (reg b))
  | 0b01001 => zeroFields (c = 0#5) (.cmpLtPh (reg a) (reg b))
  | 0b01010 => zeroFields (c = 0#5) (.cmpLePh (reg a) (reg b))
  | 0b01011 => .ok (.pickPh (reg c) (reg a) (reg b))
  | 0b01100 => .ok (.precrqQbPh (reg c) (reg a) (reg b))
  | 0b01101 => .ok (.precrQbPh (reg c) (reg a) (reg b))
  | 0b01110 => .ok (.packrlPh (reg c) (reg a) (reg b))
  | 0b01111 => .ok (.precrquSQbPh (reg c) (reg a) (reg b))
  | 0b10100 => .ok (.precrqPhW (reg c) (reg a) (reg b))
  | 0b10101 => .ok (.precrqRsPhW (reg c) (reg a) (reg b))
  | 0b11000 => .ok (.cmpgduEqQb (reg c) (reg a) (reg b))
  | 0b11001 => .ok (.cmpgduLtQb (reg c) (reg a) (reg b))
  | 0b11010 => .ok (.cmpgduLeQb (reg c) (reg a) (reg b))
  | 0b11110 => .ok (.precrSraPhW (reg b) (reg a) c.toNat)
  | 0b11111 => .ok (.precrSraRPhW (reg b) (reg a) c.toNat)
  | _ => .error .unassigned

/-- ABSQ_S.PH class, SPECIAL3 function 010010 (R76); selected by bits 10..6. -/
def decodeAbsqSPh (a b c d : BitVec 5) : Decoded :=
  match d.toNat with
  | 0b00001 => zeroFields (a = 0#5) (.absqSQb (reg c) (reg b))
  | 0b00010 => zeroFields (high2 a = 0#2) (.replQb (reg c) (low3 a ++ b))
  | 0b00011 => zeroFields (a = 0#5) (.replvQb (reg c) (reg b))
  | 0b00100 => zeroFields (a = 0#5) (.precequPhQbl (reg c) (reg b))
  | 0b00101 => zeroFields (a = 0#5) (.precequPhQbr (reg c) (reg b))
  | 0b00110 => zeroFields (a = 0#5) (.precequPhQbla (reg c) (reg b))
  | 0b00111 => zeroFields (a = 0#5) (.precequPhQbra (reg c) (reg b))
  | 0b01001 => zeroFields (a = 0#5) (.absqSPh (reg c) (reg b))
  | 0b01010 => .ok (.replPh (reg c) (a ++ b))
  | 0b01011 => zeroFields (a = 0#5) (.replvPh (reg c) (reg b))
  | 0b01100 => zeroFields (a = 0#5) (.preceqWPhl (reg c) (reg b))
  | 0b01101 => zeroFields (a = 0#5) (.preceqWPhr (reg c) (reg b))
  | 0b10001 => zeroFields (a = 0#5) (.absqSW (reg c) (reg b))
  | 0b11011 => zeroFields (a = 0#5) (.bitrev (reg c) (reg b))
  | 0b11100 => zeroFields (a = 0#5) (.preceuPhQbl (reg c) (reg b))
  | 0b11101 => zeroFields (a = 0#5) (.preceuPhQbr (reg c) (reg b))
  | 0b11110 => zeroFields (a = 0#5) (.preceuPhQbla (reg c) (reg b))
  | 0b11111 => zeroFields (a = 0#5) (.preceuPhQbra (reg c) (reg b))
  | _ => .error .unassigned

/-- SHLL.QB class, SPECIAL3 function 010011 (R77); selected by bits 10..6. -/
def decodeShllQb (a b c d : BitVec 5) : Decoded :=
  match d.toNat with
  | 0b00000 => zeroFields (high2 a = 0#2) (.shllQb (reg c) (reg b) (low3 a).toNat)
  | 0b00001 => zeroFields (high2 a = 0#2) (.shrlQb (reg c) (reg b) (low3 a).toNat)
  | 0b00010 => .ok (.shllvQb (reg c) (reg b) (reg a))
  | 0b00011 => .ok (.shrlvQb (reg c) (reg b) (reg a))
  | 0b00100 => zeroFields (high2 a = 0#2) (.shraQb (reg c) (reg b) (low3 a).toNat)
  | 0b00101 => zeroFields (high2 a = 0#2) (.shraRQb (reg c) (reg b) (low3 a).toNat)
  | 0b00110 => .ok (.shravQb (reg c) (reg b) (reg a))
  | 0b00111 => .ok (.shravRQb (reg c) (reg b) (reg a))
  | 0b01000 => zeroFields (high1 a = 0#1) (.shllPh (reg c) (reg b) (low4 a).toNat)
  | 0b01001 => zeroFields (high1 a = 0#1) (.shraPh (reg c) (reg b) (low4 a).toNat)
  | 0b01010 => .ok (.shllvPh (reg c) (reg b) (reg a))
  | 0b01011 => .ok (.shravPh (reg c) (reg b) (reg a))
  | 0b01100 => zeroFields (high1 a = 0#1) (.shllSPh (reg c) (reg b) (low4 a).toNat)
  | 0b01101 => zeroFields (high1 a = 0#1) (.shraRPh (reg c) (reg b) (low4 a).toNat)
  | 0b01110 => .ok (.shllvSPh (reg c) (reg b) (reg a))
  | 0b01111 => .ok (.shravRPh (reg c) (reg b) (reg a))
  | 0b10100 => .ok (.shllSW (reg c) (reg b) a.toNat)
  | 0b10101 => .ok (.shraRW (reg c) (reg b) a.toNat)
  | 0b10110 => .ok (.shllvSW (reg c) (reg b) (reg a))
  | 0b10111 => .ok (.shravRW (reg c) (reg b) (reg a))
  | 0b11001 => zeroFields (high1 a = 0#1) (.shrlPh (reg c) (reg b) (low4 a).toNat)
  | 0b11011 => .ok (.shrlvPh (reg c) (reg b) (reg a))
  | _ => .error .unassigned

/-- ADDUH.QB class, SPECIAL3 function 011000 (R78); selected by bits 10..6. -/
def decodeAdduhQb (a b c d : BitVec 5) : Decoded :=
  match d.toNat with
  | 0b00000 => .ok (.adduhQb (reg c) (reg a) (reg b))
  | 0b00001 => .ok (.subuhQb (reg c) (reg a) (reg b))
  | 0b00010 => .ok (.adduhRQb (reg c) (reg a) (reg b))
  | 0b00011 => .ok (.subuhRQb (reg c) (reg a) (reg b))
  | 0b01000 => .ok (.addqhPh (reg c) (reg a) (reg b))
  | 0b01001 => .ok (.subqhPh (reg c) (reg a) (reg b))
  | 0b01010 => .ok (.addqhRPh (reg c) (reg a) (reg b))
  | 0b01011 => .ok (.subqhRPh (reg c) (reg a) (reg b))
  | 0b01100 => .ok (.mulPh (reg c) (reg a) (reg b))
  | 0b01110 => .ok (.mulSPh (reg c) (reg a) (reg b))
  | 0b10000 => .ok (.addqhW (reg c) (reg a) (reg b))
  | 0b10001 => .ok (.subqhW (reg c) (reg a) (reg b))
  | 0b10010 => .ok (.addqhRW (reg c) (reg a) (reg b))
  | 0b10011 => .ok (.subqhRW (reg c) (reg a) (reg b))
  | 0b10110 => .ok (.mulqSW (reg c) (reg a) (reg b))
  | 0b10111 => .ok (.mulqRsW (reg c) (reg a) (reg b))
  | _ => .error .unassigned

/-- DPA.W.PH class, SPECIAL3 function 110000 (R79); selected by bits 10..6. -/
def decodeDpaWPh (a b c d : BitVec 5) : Decoded :=
  match d.toNat with
  | 0b00000 => zeroFields (high3 c = 0#3) (.dpaWPh (acc c) (reg a) (reg b))
  | 0b00001 => zeroFields (high3 c = 0#3) (.dpsWPh (acc c) (reg a) (reg b))
  | 0b00010 => zeroFields (high3 c = 0#3) (.mulsaWPh (acc c) (reg a) (reg b))
  | 0b00011 => zeroFields (high3 c = 0#3) (.dpauHQbl (acc c) (reg a) (reg b))
  | 0b00100 => zeroFields (high3 c = 0#3) (.dpaqSWPh (acc c) (reg a) (reg b))
  | 0b00101 => zeroFields (high3 c = 0#3) (.dpsqSWPh (acc c) (reg a) (reg b))
  | 0b00110 => zeroFields (high3 c = 0#3) (.mulsaqSWPh (acc c) (reg a) (reg b))
  | 0b00111 => zeroFields (high3 c = 0#3) (.dpauHQbr (acc c) (reg a) (reg b))
  | 0b01000 => zeroFields (high3 c = 0#3) (.dpaxWPh (acc c) (reg a) (reg b))
  | 0b01001 => zeroFields (high3 c = 0#3) (.dpsxWPh (acc c) (reg a) (reg b))
  | 0b01011 => zeroFields (high3 c = 0#3) (.dpsuHQbl (acc c) (reg a) (reg b))
  | 0b01100 => zeroFields (high3 c = 0#3) (.dpaqSaLW (acc c) (reg a) (reg b))
  | 0b01101 => zeroFields (high3 c = 0#3) (.dpsqSaLW (acc c) (reg a) (reg b))
  | 0b01111 => zeroFields (high3 c = 0#3) (.dpsuHQbr (acc c) (reg a) (reg b))
  | 0b10000 => zeroFields (high3 c = 0#3) (.maqSaWPhl (acc c) (reg a) (reg b))
  | 0b10010 => zeroFields (high3 c = 0#3) (.maqSaWPhr (acc c) (reg a) (reg b))
  | 0b10100 => zeroFields (high3 c = 0#3) (.maqSWPhl (acc c) (reg a) (reg b))
  | 0b10110 => zeroFields (high3 c = 0#3) (.maqSWPhr (acc c) (reg a) (reg b))
  | 0b11000 => zeroFields (high3 c = 0#3) (.dpaqxSWPh (acc c) (reg a) (reg b))
  | 0b11001 => zeroFields (high3 c = 0#3) (.dpsqxSWPh (acc c) (reg a) (reg b))
  | 0b11010 => zeroFields (high3 c = 0#3) (.dpaqxSaWPh (acc c) (reg a) (reg b))
  | 0b11011 => zeroFields (high3 c = 0#3) (.dpsqxSaWPh (acc c) (reg a) (reg b))
  | _ => .error .unassigned

/-- APPEND class, SPECIAL3 function 110001 (R80); selected by bits 10..6. -/
def decodeAppend (a b c d : BitVec 5) : Decoded :=
  match d.toNat with
  | 0b00000 => .ok (.append (reg b) (reg a) c.toNat)
  | 0b00001 => .ok (.prepend (reg b) (reg a) c.toNat)
  | 0b10000 => zeroFields (high3 c = 0#3) (.balign (reg b) (reg a) (low2 c).toNat)
  | _ => .error .unassigned

/-- EXTR.W class, SPECIAL3 function 111000 (R81); selected by bits 10..6. -/
def decodeExtrW (a b c d : BitVec 5) : Decoded :=
  match d.toNat with
  | 0b00000 => zeroFields (high3 c = 0#3) (.extrW (reg b) (acc c) a.toNat)
  | 0b00001 => zeroFields (high3 c = 0#3) (.extrvW (reg b) (acc c) (reg a))
  | 0b00010 => zeroFields (high3 c = 0#3) (.extp (reg b) (acc c) a.toNat)
  | 0b00011 => zeroFields (high3 c = 0#3) (.extpv (reg b) (acc c) (reg a))
  | 0b00100 => zeroFields (high3 c = 0#3) (.extrRW (reg b) (acc c) a.toNat)
  | 0b00101 => zeroFields (high3 c = 0#3) (.extrvRW (reg b) (acc c) (reg a))
  | 0b00110 => zeroFields (high3 c = 0#3) (.extrRsW (reg b) (acc c) a.toNat)
  | 0b00111 => zeroFields (high3 c = 0#3) (.extrvRsW (reg b) (acc c) (reg a))
  | 0b01010 => zeroFields (high3 c = 0#3) (.extpdp (reg b) (acc c) a.toNat)
  | 0b01011 => zeroFields (high3 c = 0#3) (.extpdpv (reg b) (acc c) (reg a))
  | 0b01110 => zeroFields (high3 c = 0#3) (.extrSH (reg b) (acc c) a.toNat)
  | 0b01111 => zeroFields (high3 c = 0#3) (.extrvSH (reg b) (acc c) (reg a))
  | 0b10010 => .ok (.rddsp (reg c) (a ++ b))
  | 0b10011 => .ok (.wrdsp (reg a) (b ++ c))
  | 0b11010 => zeroFields (low4 b = 0#4 ∧ high3 c = 0#3) (.shilo (acc c) (a ++ high1 b))
  | 0b11011 => zeroFields (b = 0#5 ∧ high3 c = 0#3) (.shilov (acc c) (reg a))
  | 0b11111 => zeroFields (b = 0#5 ∧ high3 c = 0#3) (.mthlip (reg a) (acc c))
  | _ => .error .unassigned

/-- SPECIAL3, major opcode 011111 (R73, R83). -/
def decodeSpecial3 (a b c d : BitVec 5) (f : BitVec 6) : Decoded :=
  match f.toNat with
  | 0b001010 => decodeLX a b c d
  | 0b001100 => zeroFields (c = 0#5 ∧ d = 0#5) (.insv (reg b) (reg a))
  | 0b010000 => decodeAdduQb a b c d
  | 0b010001 => decodeCmpuEqQb a b c d
  | 0b010010 => decodeAbsqSPh a b c d
  | 0b010011 => decodeShllQb a b c d
  | 0b011000 => decodeAdduhQb a b c d
  | 0b110000 => decodeDpaWPh a b c d
  | 0b110001 => decodeAppend a b c d
  | 0b111000 => decodeExtrW a b c d
  | _ => .error .unassigned

/-- REGIMM, major opcode 000001 (R84); selected by bits 20..16. -/
def decodeRegimm (a b c d : BitVec 5) (f : BitVec 6) : Decoded :=
  match b.toNat with
  | 0b11000 => zeroFields (a = 0#5) (.bposge32c (c ++ d ++ f))
  | 0b11100 => zeroFields (a = 0#5) (.bposge32 (c ++ d ++ f))
  | _ => .error .unassigned

/-- SPECIAL2, major opcode 011100 (R85); selected by bits 5..0. -/
def decodeSpecial2 (a b c d : BitVec 5) (f : BitVec 6) : Decoded :=
  match f.toNat with
  | 0b000000 => zeroFields (high3 c = 0#3 ∧ d = 0#5) (.madd (acc c) (reg a) (reg b))
  | 0b000001 => zeroFields (high3 c = 0#3 ∧ d = 0#5) (.maddu (acc c) (reg a) (reg b))
  | 0b000100 => zeroFields (high3 c = 0#3 ∧ d = 0#5) (.msub (acc c) (reg a) (reg b))
  | 0b000101 => zeroFields (high3 c = 0#3 ∧ d = 0#5) (.msubu (acc c) (reg a) (reg b))
  | _ => .error .unassigned

/-- SPECIAL, major opcode 000000 (R86); selected by bits 5..0. -/
def decodeSpecial (a b c d : BitVec 5) (f : BitVec 6) : Decoded :=
  match f.toNat with
  | 0b010000 => zeroFields (high3 a = 0#3 ∧ b = 0#5 ∧ d = 0#5) (.mfhi (reg c) (acc a))
  | 0b010001 => zeroFields (b = 0#5 ∧ high3 c = 0#3 ∧ d = 0#5) (.mthi (reg a) (acc c))
  | 0b010010 => zeroFields (high3 a = 0#3 ∧ b = 0#5 ∧ d = 0#5) (.mflo (reg c) (acc a))
  | 0b010011 => zeroFields (b = 0#5 ∧ high3 c = 0#3 ∧ d = 0#5) (.mtlo (reg a) (acc c))
  | 0b011000 => zeroFields (high3 c = 0#3 ∧ d = 0#5) (.mult (acc c) (reg a) (reg b))
  | 0b011001 => zeroFields (high3 c = 0#3 ∧ d = 0#5) (.multu (acc c) (reg a) (reg b))
  | _ => .error .unassigned

/-- The major opcode selects the group (R72). -/
def decodeFields (op : BitVec 6) (a b c d : BitVec 5) (f : BitVec 6) : Decoded :=
  match op.toNat with
  | 0b000000 => decodeSpecial a b c d f
  | 0b000001 => decodeRegimm a b c d f
  | 0b011100 => decodeSpecial2 a b c d f
  | 0b011111 => decodeSpecial3 a b c d f
  | _ => .error .unassigned

/-- The decoder (R93). -/
def decodeWord (w : Word) : Decoded :=
  decodeFields (fieldOp w) (fieldA w) (fieldB w) (fieldC w) (fieldD w) (fieldF w)

/-- The decoder on the bytes at `pc`: the instruction and the bytes after it. -/
def decodeBytes (be : Bool) : List Byte → Except DecodeError (Instr × List Byte)
  | b0 :: b1 :: b2 :: b3 :: rest =>
    match decodeWord (wordOfBytes be b0 b1 b2 b3) with
    | .ok i => .ok (i, rest)
    | .error e => .error e
  | _ => .error .truncated

/-- The instruction that the decoder reads from an instruction whose bits are `w` (bits above `nbits` zero), its
bytes laid out in the byte order of `State.reset`, lowest address first. -/
def decodeTableWord (nbits w : Nat) : Option Instr :=
  let v : Word := BitVec.ofNat 32 (w % 2 ^ nbits)
  let bytes := [byteOfWord false v 0, byteOfWord false v 1, byteOfWord false v 2, byteOfWord false v 3]
  match decodeBytes false bytes with
  | .ok (i, _) => some i
  | .error _ => none

/-! ### The encoder -/

/-- The word of an instruction, from the figures of R71 to R86. -/
def encode : Instr → Word
  | .adduQb rd rs rt => instrWord 0b011111#6 (regField rs) (regField rt) (regField rd) 0b00000#5 0b010000#6
  | .subuQb rd rs rt => instrWord 0b011111#6 (regField rs) (regField rt) (regField rd) 0b00001#5 0b010000#6
  | .adduSQb rd rs rt => instrWord 0b011111#6 (regField rs) (regField rt) (regField rd) 0b00100#5 0b010000#6
  | .subuSQb rd rs rt => instrWord 0b011111#6 (regField rs) (regField rt) (regField rd) 0b00101#5 0b010000#6
  | .muleuSPhQbl rd rs rt => instrWord 0b011111#6 (regField rs) (regField rt) (regField rd) 0b00110#5 0b010000#6
  | .muleuSPhQbr rd rs rt => instrWord 0b011111#6 (regField rs) (regField rt) (regField rd) 0b00111#5 0b010000#6
  | .adduPh rd rs rt => instrWord 0b011111#6 (regField rs) (regField rt) (regField rd) 0b01000#5 0b010000#6
  | .subuPh rd rs rt => instrWord 0b011111#6 (regField rs) (regField rt) (regField rd) 0b01001#5 0b010000#6
  | .addqPh rd rs rt => instrWord 0b011111#6 (regField rs) (regField rt) (regField rd) 0b01010#5 0b010000#6
  | .subqPh rd rs rt => instrWord 0b011111#6 (regField rs) (regField rt) (regField rd) 0b01011#5 0b010000#6
  | .adduSPh rd rs rt => instrWord 0b011111#6 (regField rs) (regField rt) (regField rd) 0b01100#5 0b010000#6
  | .subuSPh rd rs rt => instrWord 0b011111#6 (regField rs) (regField rt) (regField rd) 0b01101#5 0b010000#6
  | .addqSPh rd rs rt => instrWord 0b011111#6 (regField rs) (regField rt) (regField rd) 0b01110#5 0b010000#6
  | .subqSPh rd rs rt => instrWord 0b011111#6 (regField rs) (regField rt) (regField rd) 0b01111#5 0b010000#6
  | .addsc rd rs rt => instrWord 0b011111#6 (regField rs) (regField rt) (regField rd) 0b10000#5 0b010000#6
  | .addwc rd rs rt => instrWord 0b011111#6 (regField rs) (regField rt) (regField rd) 0b10001#5 0b010000#6
  | .modsub rd rs rt => instrWord 0b011111#6 (regField rs) (regField rt) (regField rd) 0b10010#5 0b010000#6
  | .addqSW rd rs rt => instrWord 0b011111#6 (regField rs) (regField rt) (regField rd) 0b10110#5 0b010000#6
  | .subqSW rd rs rt => instrWord 0b011111#6 (regField rs) (regField rt) (regField rd) 0b10111#5 0b010000#6
  | .muleqSWPhl rd rs rt => instrWord 0b011111#6 (regField rs) (regField rt) (regField rd) 0b11100#5 0b010000#6
  | .muleqSWPhr rd rs rt => instrWord 0b011111#6 (regField rs) (regField rt) (regField rd) 0b11101#5 0b010000#6
  | .mulqSPh rd rs rt => instrWord 0b011111#6 (regField rs) (regField rt) (regField rd) 0b11110#5 0b010000#6
  | .mulqRsPh rd rs rt => instrWord 0b011111#6 (regField rs) (regField rt) (regField rd) 0b11111#5 0b010000#6
  | .radduWQb rd rs => instrWord 0b011111#6 (regField rs) 0#5 (regField rd) 0b10100#5 0b010000#6
  | .cmpuEqQb rs rt => instrWord 0b011111#6 (regField rs) (regField rt) 0#5 0b00000#5 0b010001#6
  | .cmpuLtQb rs rt => instrWord 0b011111#6 (regField rs) (regField rt) 0#5 0b00001#5 0b010001#6
  | .cmpuLeQb rs rt => instrWord 0b011111#6 (regField rs) (regField rt) 0#5 0b00010#5 0b010001#6
  | .pickQb rd rs rt => instrWord 0b011111#6 (regField rs) (regField rt) (regField rd) 0b00011#5 0b010001#6
  | .cmpguEqQb rd rs rt => instrWord 0b011111#6 (regField rs) (regField rt) (regField rd) 0b00100#5 0b010001#6
  | .cmpguLtQb rd rs rt => instrWord 0b011111#6 (regField rs) (regField rt) (regField rd) 0b00101#5 0b010001#6
  | .cmpguLeQb rd rs rt => instrWord 0b011111#6 (regField rs) (regField rt) (regField rd) 0b00110#5 0b010001#6
  | .cmpEqPh rs rt => instrWord 0b011111#6 (regField rs) (regField rt) 0#5 0b01000#5 0b010001#6
  | .cmpLtPh rs rt => instrWord 0b011111#6 (regField rs) (regField rt) 0#5 0b01001#5 0b010001#6
  | .cmpLePh rs rt => instrWord 0b011111#6 (regField rs) (regField rt) 0#5 0b01010#5 0b010001#6
  | .pickPh rd rs rt => instrWord 0b011111#6 (regField rs) (regField rt) (regField rd) 0b01011#5 0b010001#6
  | .precrqQbPh rd rs rt => instrWord 0b011111#6 (regField rs) (regField rt) (regField rd) 0b01100#5 0b010001#6
  | .precrQbPh rd rs rt => instrWord 0b011111#6 (regField rs) (regField rt) (regField rd) 0b01101#5 0b010001#6
  | .packrlPh rd rs rt => instrWord 0b011111#6 (regField rs) (regField rt) (regField rd) 0b01110#5 0b010001#6
  | .precrquSQbPh rd rs rt => instrWord 0b011111#6 (regField rs) (regField rt) (regField rd) 0b01111#5 0b010001#6
  | .precrqPhW rd rs rt => instrWord 0b011111#6 (regField rs) (regField rt) (regField rd) 0b10100#5 0b010001#6
  | .precrqRsPhW rd rs rt => instrWord 0b011111#6 (regField rs) (regField rt) (regField rd) 0b10101#5 0b010001#6
  | .cmpgduEqQb rd rs rt => instrWord 0b011111#6 (regField rs) (regField rt) (regField rd) 0b11000#5 0b010001#6
  | .cmpgduLtQb rd rs rt => instrWord 0b011111#6 (regField rs) (regField rt) (regField rd) 0b11001#5 0b010001#6
  | .cmpgduLeQb rd rs rt => instrWord 0b011111#6 (regField rs) (regField rt) (regField rd) 0b11010#5 0b010001#6
  | .precrSraPhW rt rs sa => instrWord 0b011111#6 (regField rs) (regField rt) (BitVec.ofNat 5 sa) 0b11110#5 0b010001#6
  | .precrSraRPhW rt rs sa => instrWord 0b011111#6 (regField rs) (regField rt) (BitVec.ofNat 5 sa) 0b11111#5 0b010001#6
  | .absqSQb rd rt => instrWord 0b011111#6 0#5 (regField rt) (regField rd) 0b00001#5 0b010010#6
  | .replQb rd imm => instrWord 0b011111#6 (0#2 ++ imm.extractLsb' 5 3) (imm.extractLsb' 0 5) (regField rd) 0b00010#5 0b010010#6
  | .replvQb rd rt => instrWord 0b011111#6 0#5 (regField rt) (regField rd) 0b00011#5 0b010010#6
  | .precequPhQbl rd rt => instrWord 0b011111#6 0#5 (regField rt) (regField rd) 0b00100#5 0b010010#6
  | .precequPhQbr rd rt => instrWord 0b011111#6 0#5 (regField rt) (regField rd) 0b00101#5 0b010010#6
  | .precequPhQbla rd rt => instrWord 0b011111#6 0#5 (regField rt) (regField rd) 0b00110#5 0b010010#6
  | .precequPhQbra rd rt => instrWord 0b011111#6 0#5 (regField rt) (regField rd) 0b00111#5 0b010010#6
  | .absqSPh rd rt => instrWord 0b011111#6 0#5 (regField rt) (regField rd) 0b01001#5 0b010010#6
  | .replPh rd imm => instrWord 0b011111#6 (imm.extractLsb' 5 5) (imm.extractLsb' 0 5) (regField rd) 0b01010#5 0b010010#6
  | .replvPh rd rt => instrWord 0b011111#6 0#5 (regField rt) (regField rd) 0b01011#5 0b010010#6
  | .preceqWPhl rd rt => instrWord 0b011111#6 0#5 (regField rt) (regField rd) 0b01100#5 0b010010#6
  | .preceqWPhr rd rt => instrWord 0b011111#6 0#5 (regField rt) (regField rd) 0b01101#5 0b010010#6
  | .absqSW rd rt => instrWord 0b011111#6 0#5 (regField rt) (regField rd) 0b10001#5 0b010010#6
  | .bitrev rd rt => instrWord 0b011111#6 0#5 (regField rt) (regField rd) 0b11011#5 0b010010#6
  | .preceuPhQbl rd rt => instrWord 0b011111#6 0#5 (regField rt) (regField rd) 0b11100#5 0b010010#6
  | .preceuPhQbr rd rt => instrWord 0b011111#6 0#5 (regField rt) (regField rd) 0b11101#5 0b010010#6
  | .preceuPhQbla rd rt => instrWord 0b011111#6 0#5 (regField rt) (regField rd) 0b11110#5 0b010010#6
  | .preceuPhQbra rd rt => instrWord 0b011111#6 0#5 (regField rt) (regField rd) 0b11111#5 0b010010#6
  | .shllQb rd rt sa => instrWord 0b011111#6 (BitVec.ofNat 5 sa) (regField rt) (regField rd) 0b00000#5 0b010011#6
  | .shrlQb rd rt sa => instrWord 0b011111#6 (BitVec.ofNat 5 sa) (regField rt) (regField rd) 0b00001#5 0b010011#6
  | .shllvQb rd rt rs => instrWord 0b011111#6 (regField rs) (regField rt) (regField rd) 0b00010#5 0b010011#6
  | .shrlvQb rd rt rs => instrWord 0b011111#6 (regField rs) (regField rt) (regField rd) 0b00011#5 0b010011#6
  | .shraQb rd rt sa => instrWord 0b011111#6 (BitVec.ofNat 5 sa) (regField rt) (regField rd) 0b00100#5 0b010011#6
  | .shraRQb rd rt sa => instrWord 0b011111#6 (BitVec.ofNat 5 sa) (regField rt) (regField rd) 0b00101#5 0b010011#6
  | .shravQb rd rt rs => instrWord 0b011111#6 (regField rs) (regField rt) (regField rd) 0b00110#5 0b010011#6
  | .shravRQb rd rt rs => instrWord 0b011111#6 (regField rs) (regField rt) (regField rd) 0b00111#5 0b010011#6
  | .shllPh rd rt sa => instrWord 0b011111#6 (BitVec.ofNat 5 sa) (regField rt) (regField rd) 0b01000#5 0b010011#6
  | .shraPh rd rt sa => instrWord 0b011111#6 (BitVec.ofNat 5 sa) (regField rt) (regField rd) 0b01001#5 0b010011#6
  | .shllvPh rd rt rs => instrWord 0b011111#6 (regField rs) (regField rt) (regField rd) 0b01010#5 0b010011#6
  | .shravPh rd rt rs => instrWord 0b011111#6 (regField rs) (regField rt) (regField rd) 0b01011#5 0b010011#6
  | .shllSPh rd rt sa => instrWord 0b011111#6 (BitVec.ofNat 5 sa) (regField rt) (regField rd) 0b01100#5 0b010011#6
  | .shraRPh rd rt sa => instrWord 0b011111#6 (BitVec.ofNat 5 sa) (regField rt) (regField rd) 0b01101#5 0b010011#6
  | .shllvSPh rd rt rs => instrWord 0b011111#6 (regField rs) (regField rt) (regField rd) 0b01110#5 0b010011#6
  | .shravRPh rd rt rs => instrWord 0b011111#6 (regField rs) (regField rt) (regField rd) 0b01111#5 0b010011#6
  | .shllSW rd rt sa => instrWord 0b011111#6 (BitVec.ofNat 5 sa) (regField rt) (regField rd) 0b10100#5 0b010011#6
  | .shraRW rd rt sa => instrWord 0b011111#6 (BitVec.ofNat 5 sa) (regField rt) (regField rd) 0b10101#5 0b010011#6
  | .shllvSW rd rt rs => instrWord 0b011111#6 (regField rs) (regField rt) (regField rd) 0b10110#5 0b010011#6
  | .shravRW rd rt rs => instrWord 0b011111#6 (regField rs) (regField rt) (regField rd) 0b10111#5 0b010011#6
  | .shrlPh rd rt sa => instrWord 0b011111#6 (BitVec.ofNat 5 sa) (regField rt) (regField rd) 0b11001#5 0b010011#6
  | .shrlvPh rd rt rs => instrWord 0b011111#6 (regField rs) (regField rt) (regField rd) 0b11011#5 0b010011#6
  | .adduhQb rd rs rt => instrWord 0b011111#6 (regField rs) (regField rt) (regField rd) 0b00000#5 0b011000#6
  | .subuhQb rd rs rt => instrWord 0b011111#6 (regField rs) (regField rt) (regField rd) 0b00001#5 0b011000#6
  | .adduhRQb rd rs rt => instrWord 0b011111#6 (regField rs) (regField rt) (regField rd) 0b00010#5 0b011000#6
  | .subuhRQb rd rs rt => instrWord 0b011111#6 (regField rs) (regField rt) (regField rd) 0b00011#5 0b011000#6
  | .addqhPh rd rs rt => instrWord 0b011111#6 (regField rs) (regField rt) (regField rd) 0b01000#5 0b011000#6
  | .subqhPh rd rs rt => instrWord 0b011111#6 (regField rs) (regField rt) (regField rd) 0b01001#5 0b011000#6
  | .addqhRPh rd rs rt => instrWord 0b011111#6 (regField rs) (regField rt) (regField rd) 0b01010#5 0b011000#6
  | .subqhRPh rd rs rt => instrWord 0b011111#6 (regField rs) (regField rt) (regField rd) 0b01011#5 0b011000#6
  | .mulPh rd rs rt => instrWord 0b011111#6 (regField rs) (regField rt) (regField rd) 0b01100#5 0b011000#6
  | .mulSPh rd rs rt => instrWord 0b011111#6 (regField rs) (regField rt) (regField rd) 0b01110#5 0b011000#6
  | .addqhW rd rs rt => instrWord 0b011111#6 (regField rs) (regField rt) (regField rd) 0b10000#5 0b011000#6
  | .subqhW rd rs rt => instrWord 0b011111#6 (regField rs) (regField rt) (regField rd) 0b10001#5 0b011000#6
  | .addqhRW rd rs rt => instrWord 0b011111#6 (regField rs) (regField rt) (regField rd) 0b10010#5 0b011000#6
  | .subqhRW rd rs rt => instrWord 0b011111#6 (regField rs) (regField rt) (regField rd) 0b10011#5 0b011000#6
  | .mulqSW rd rs rt => instrWord 0b011111#6 (regField rs) (regField rt) (regField rd) 0b10110#5 0b011000#6
  | .mulqRsW rd rs rt => instrWord 0b011111#6 (regField rs) (regField rt) (regField rd) 0b10111#5 0b011000#6
  | .dpaWPh ac rs rt => instrWord 0b011111#6 (regField rs) (regField rt) (accField ac) 0b00000#5 0b110000#6
  | .dpsWPh ac rs rt => instrWord 0b011111#6 (regField rs) (regField rt) (accField ac) 0b00001#5 0b110000#6
  | .mulsaWPh ac rs rt => instrWord 0b011111#6 (regField rs) (regField rt) (accField ac) 0b00010#5 0b110000#6
  | .dpauHQbl ac rs rt => instrWord 0b011111#6 (regField rs) (regField rt) (accField ac) 0b00011#5 0b110000#6
  | .dpaqSWPh ac rs rt => instrWord 0b011111#6 (regField rs) (regField rt) (accField ac) 0b00100#5 0b110000#6
  | .dpsqSWPh ac rs rt => instrWord 0b011111#6 (regField rs) (regField rt) (accField ac) 0b00101#5 0b110000#6
  | .mulsaqSWPh ac rs rt => instrWord 0b011111#6 (regField rs) (regField rt) (accField ac) 0b00110#5 0b110000#6
  | .dpauHQbr ac rs rt => instrWord 0b011111#6 (regField rs) (regField rt) (accField ac) 0b00111#5 0b110000#6
  | .dpaxWPh ac rs rt => instrWord 0b011111#6 (regField rs) (regField rt) (accField ac) 0b01000#5 0b110000#6
  | .dpsxWPh ac rs rt => instrWord 0b011111#6 (regField rs) (regField rt) (accField ac) 0b01001#5 0b110000#6
  | .dpsuHQbl ac rs rt => instrWord 0b011111#6 (regField rs) (regField rt) (accField ac) 0b01011#5 0b110000#6
  | .dpaqSaLW ac rs rt => instrWord 0b011111#6 (regField rs) (regField rt) (accField ac) 0b01100#5 0b110000#6
  | .dpsqSaLW ac rs rt => instrWord 0b011111#6 (regField rs) (regField rt) (accField ac) 0b01101#5 0b110000#6
  | .dpsuHQbr ac rs rt => instrWord 0b011111#6 (regField rs) (regField rt) (accField ac) 0b01111#5 0b110000#6
  | .maqSaWPhl ac rs rt => instrWord 0b011111#6 (regField rs) (regField rt) (accField ac) 0b10000#5 0b110000#6
  | .maqSaWPhr ac rs rt => instrWord 0b011111#6 (regField rs) (regField rt) (accField ac) 0b10010#5 0b110000#6
  | .maqSWPhl ac rs rt => instrWord 0b011111#6 (regField rs) (regField rt) (accField ac) 0b10100#5 0b110000#6
  | .maqSWPhr ac rs rt => instrWord 0b011111#6 (regField rs) (regField rt) (accField ac) 0b10110#5 0b110000#6
  | .dpaqxSWPh ac rs rt => instrWord 0b011111#6 (regField rs) (regField rt) (accField ac) 0b11000#5 0b110000#6
  | .dpsqxSWPh ac rs rt => instrWord 0b011111#6 (regField rs) (regField rt) (accField ac) 0b11001#5 0b110000#6
  | .dpaqxSaWPh ac rs rt => instrWord 0b011111#6 (regField rs) (regField rt) (accField ac) 0b11010#5 0b110000#6
  | .dpsqxSaWPh ac rs rt => instrWord 0b011111#6 (regField rs) (regField rt) (accField ac) 0b11011#5 0b110000#6
  | .append rt rs sa => instrWord 0b011111#6 (regField rs) (regField rt) (BitVec.ofNat 5 sa) 0b00000#5 0b110001#6
  | .prepend rt rs sa => instrWord 0b011111#6 (regField rs) (regField rt) (BitVec.ofNat 5 sa) 0b00001#5 0b110001#6
  | .balign rt rs bp => instrWord 0b011111#6 (regField rs) (regField rt) (BitVec.ofNat 5 bp) 0b10000#5 0b110001#6
  | .extrW rt ac shift => instrWord 0b011111#6 (BitVec.ofNat 5 shift) (regField rt) (accField ac) 0b00000#5 0b111000#6
  | .extrvW rt ac rs => instrWord 0b011111#6 (regField rs) (regField rt) (accField ac) 0b00001#5 0b111000#6
  | .extp rt ac size => instrWord 0b011111#6 (BitVec.ofNat 5 size) (regField rt) (accField ac) 0b00010#5 0b111000#6
  | .extpv rt ac rs => instrWord 0b011111#6 (regField rs) (regField rt) (accField ac) 0b00011#5 0b111000#6
  | .extrRW rt ac shift => instrWord 0b011111#6 (BitVec.ofNat 5 shift) (regField rt) (accField ac) 0b00100#5 0b111000#6
  | .extrvRW rt ac rs => instrWord 0b011111#6 (regField rs) (regField rt) (accField ac) 0b00101#5 0b111000#6
  | .extrRsW rt ac shift => instrWord 0b011111#6 (BitVec.ofNat 5 shift) (regField rt) (accField ac) 0b00110#5 0b111000#6
  | .extrvRsW rt ac rs => instrWord 0b011111#6 (regField rs) (regField rt) (accField ac) 0b00111#5 0b111000#6
  | .extpdp rt ac size => instrWord 0b011111#6 (BitVec.ofNat 5 size) (regField rt) (accField ac) 0b01010#5 0b111000#6
  | .extpdpv rt ac rs => instrWord 0b011111#6 (regField rs) (regField rt) (accField ac) 0b01011#5 0b111000#6
  | .extrSH rt ac shift => instrWord 0b011111#6 (BitVec.ofNat 5 shift) (regField rt) (accField ac) 0b01110#5 0b111000#6
  | .extrvSH rt ac rs => instrWord 0b011111#6 (regField rs) (regField rt) (accField ac) 0b01111#5 0b111000#6
  | .rddsp rd mask => instrWord 0b011111#6 (mask.extractLsb' 5 5) (mask.extractLsb' 0 5) (regField rd) 0b10010#5 0b111000#6
  | .wrdsp rs mask => instrWord 0b011111#6 (regField rs) (mask.extractLsb' 5 5) (mask.extractLsb' 0 5) 0b10011#5 0b111000#6
  | .shilo ac shift => instrWord 0b011111#6 (shift.extractLsb' 1 5) (shift.extractLsb' 0 1 ++ 0#4) (accField ac) 0b11010#5 0b111000#6
  | .shilov ac rs => instrWord 0b011111#6 (regField rs) 0#5 (accField ac) 0b11011#5 0b111000#6
  | .mthlip rs ac => instrWord 0b011111#6 (regField rs) 0#5 (accField ac) 0b11111#5 0b111000#6
  | .lwx rd index base => instrWord 0b011111#6 (regField base) (regField index) (regField rd) 0b00000#5 0b001010#6
  | .lhx rd index base => instrWord 0b011111#6 (regField base) (regField index) (regField rd) 0b00100#5 0b001010#6
  | .lbux rd index base => instrWord 0b011111#6 (regField base) (regField index) (regField rd) 0b00110#5 0b001010#6
  | .ldx rd index base => instrWord 0b011111#6 (regField base) (regField index) (regField rd) 0b01000#5 0b001010#6
  | .insv rt rs => instrWord 0b011111#6 (regField rs) (regField rt) 0#5 0#5 0b001100#6
  | .bposge32 offset => instrWord 0b000001#6 0#5 0b11100#5 (offset.extractLsb' 11 5) (offset.extractLsb' 6 5) (offset.extractLsb' 0 6)
  | .bposge32c offset => instrWord 0b000001#6 0#5 0b11000#5 (offset.extractLsb' 11 5) (offset.extractLsb' 6 5) (offset.extractLsb' 0 6)
  | .madd ac rs rt => instrWord 0b011100#6 (regField rs) (regField rt) (accField ac) 0#5 0b000000#6
  | .maddu ac rs rt => instrWord 0b011100#6 (regField rs) (regField rt) (accField ac) 0#5 0b000001#6
  | .msub ac rs rt => instrWord 0b011100#6 (regField rs) (regField rt) (accField ac) 0#5 0b000100#6
  | .msubu ac rs rt => instrWord 0b011100#6 (regField rs) (regField rt) (accField ac) 0#5 0b000101#6
  | .mult ac rs rt => instrWord 0b000000#6 (regField rs) (regField rt) (accField ac) 0#5 0b011000#6
  | .multu ac rs rt => instrWord 0b000000#6 (regField rs) (regField rt) (accField ac) 0#5 0b011001#6
  | .mfhi rd ac => instrWord 0b000000#6 (accField ac) 0#5 (regField rd) 0#5 0b010000#6
  | .mflo rd ac => instrWord 0b000000#6 (accField ac) 0#5 (regField rd) 0#5 0b010010#6
  | .mthi rs ac => instrWord 0b000000#6 (regField rs) 0#5 (accField ac) 0#5 0b010001#6
  | .mtlo rs ac => instrWord 0b000000#6 (regField rs) 0#5 (accField ac) 0#5 0b010011#6

/-! ### The opcode table as data -/

/-- One row of `spec/opcode_table.json`: the word `w` is an instruction of the row when `w &&& mask = pattern`
(R93). -/
structure OpcodeRow where
  mnemonic : String
  pattern : Word
  mask : Word
  tag : IsaTag
  deriving DecidableEq, Repr

/-- Does the row accept the word (R93)? -/
def OpcodeRow.accepts (r : OpcodeRow) (w : Word) : Bool := w &&& r.mask == r.pattern

def rowsAdduQb : List OpcodeRow := [
  ⟨"ADDU.QB", 0x7c000010#32, 0xfc0007ff#32, .dsp⟩,
  ⟨"SUBU.QB", 0x7c000050#32, 0xfc0007ff#32, .dsp⟩,
  ⟨"ADDU_S.QB", 0x7c000110#32, 0xfc0007ff#32, .dsp⟩,
  ⟨"SUBU_S.QB", 0x7c000150#32, 0xfc0007ff#32, .dsp⟩,
  ⟨"MULEU_S.PH.QBL", 0x7c000190#32, 0xfc0007ff#32, .dsp⟩,
  ⟨"MULEU_S.PH.QBR", 0x7c0001d0#32, 0xfc0007ff#32, .dsp⟩,
  ⟨"ADDU.PH", 0x7c000210#32, 0xfc0007ff#32, .dspR2⟩,
  ⟨"SUBU.PH", 0x7c000250#32, 0xfc0007ff#32, .dspR2⟩,
  ⟨"ADDQ.PH", 0x7c000290#32, 0xfc0007ff#32, .dsp⟩,
  ⟨"SUBQ.PH", 0x7c0002d0#32, 0xfc0007ff#32, .dsp⟩,
  ⟨"ADDU_S.PH", 0x7c000310#32, 0xfc0007ff#32, .dspR2⟩,
  ⟨"SUBU_S.PH", 0x7c000350#32, 0xfc0007ff#32, .dspR2⟩,
  ⟨"ADDQ_S.PH", 0x7c000390#32, 0xfc0007ff#32, .dsp⟩,
  ⟨"SUBQ_S.PH", 0x7c0003d0#32, 0xfc0007ff#32, .dsp⟩,
  ⟨"ADDSC", 0x7c000410#32, 0xfc0007ff#32, .dsp⟩,
  ⟨"ADDWC", 0x7c000450#32, 0xfc0007ff#32, .dsp⟩,
  ⟨"MODSUB", 0x7c000490#32, 0xfc0007ff#32, .dsp⟩,
  ⟨"ADDQ_S.W", 0x7c000590#32, 0xfc0007ff#32, .dsp⟩,
  ⟨"SUBQ_S.W", 0x7c0005d0#32, 0xfc0007ff#32, .dsp⟩,
  ⟨"MULEQ_S.W.PHL", 0x7c000710#32, 0xfc0007ff#32, .dsp⟩,
  ⟨"MULEQ_S.W.PHR", 0x7c000750#32, 0xfc0007ff#32, .dsp⟩,
  ⟨"MULQ_S.PH", 0x7c000790#32, 0xfc0007ff#32, .dspR2⟩,
  ⟨"MULQ_RS.PH", 0x7c0007d0#32, 0xfc0007ff#32, .dsp⟩,
  ⟨"RADDU.W.QB", 0x7c000510#32, 0xfc1f07ff#32, .dsp⟩]

def rowsCmpuEqQb : List OpcodeRow := [
  ⟨"CMPU.EQ.QB", 0x7c000011#32, 0xfc00ffff#32, .dsp⟩,
  ⟨"CMPU.LT.QB", 0x7c000051#32, 0xfc00ffff#32, .dsp⟩,
  ⟨"CMPU.LE.QB", 0x7c000091#32, 0xfc00ffff#32, .dsp⟩,
  ⟨"PICK.QB", 0x7c0000d1#32, 0xfc0007ff#32, .dsp⟩,
  ⟨"CMPGU.EQ.QB", 0x7c000111#32, 0xfc0007ff#32, .dsp⟩,
  ⟨"CMPGU.LT.QB", 0x7c000151#32, 0xfc0007ff#32, .dsp⟩,
  ⟨"CMPGU.LE.QB", 0x7c000191#32, 0xfc0007ff#32, .dsp⟩,
  ⟨"CMP.EQ.PH", 0x7c000211#32, 0xfc00ffff#32, .dsp⟩,
  ⟨"CMP.LT.PH", 0x7c000251#32, 0xfc00ffff#32, .dsp⟩,
  ⟨"CMP.LE.PH", 0x7c000291#32, 0xfc00ffff#32, .dsp⟩,
  ⟨"PICK.PH", 0x7c0002d1#32, 0xfc0007ff#32, .dsp⟩,
  ⟨"PRECRQ.QB.PH", 0x7c000311#32, 0xfc0007ff#32, .dsp⟩,
  ⟨"PRECR.QB.PH", 0x7c000351#32, 0xfc0007ff#32, .dspR2⟩,
  ⟨"PACKRL.PH", 0x7c000391#32, 0xfc0007ff#32, .dsp⟩,
  ⟨"PRECRQU_S.QB.PH", 0x7c0003d1#32, 0xfc0007ff#32, .dsp⟩,
  ⟨"PRECRQ.PH.W", 0x7c000511#32, 0xfc0007ff#32, .dsp⟩,
  ⟨"PRECRQ_RS.PH.W", 0x7c000551#32, 0xfc0007ff#32, .dsp⟩,
  ⟨"CMPGDU.EQ.QB", 0x7c000611#32, 0xfc0007ff#32, .dspR2⟩,
  ⟨"CMPGDU.LT.QB", 0x7c000651#32, 0xfc0007ff#32, .dspR2⟩,
  ⟨"CMPGDU.LE.QB", 0x7c000691#32, 0xfc0007ff#32, .dspR2⟩,
  ⟨"PRECR_SRA.PH.W", 0x7c000791#32, 0xfc0007ff#32, .dspR2⟩,
  ⟨"PRECR_SRA_R.PH.W", 0x7c0007d1#32, 0xfc0007ff#32, .dspR2⟩]

def rowsAbsqSPh : List OpcodeRow := [
  ⟨"ABSQ_S.QB", 0x7c000052#32, 0xffe007ff#32, .dspR2⟩,
  ⟨"REPL.QB", 0x7c000092#32, 0xff0007ff#32, .dsp⟩,
  ⟨"REPLV.QB", 0x7c0000d2#32, 0xffe007ff#32, .dsp⟩,
  ⟨"PRECEQU.PH.QBL", 0x7c000112#32, 0xffe007ff#32, .dsp⟩,
  ⟨"PRECEQU.PH.QBR", 0x7c000152#32, 0xffe007ff#32, .dsp⟩,
  ⟨"PRECEQU.PH.QBLA", 0x7c000192#32, 0xffe007ff#32, .dsp⟩,
  ⟨"PRECEQU.PH.QBRA", 0x7c0001d2#32, 0xffe007ff#32, .dsp⟩,
  ⟨"ABSQ_S.PH", 0x7c000252#32, 0xffe007ff#32, .dsp⟩,
  ⟨"REPL.PH", 0x7c000292#32, 0xfc0007ff#32, .dsp⟩,
  ⟨"REPLV.PH", 0x7c0002d2#32, 0xffe007ff#32, .dsp⟩,
  ⟨"PRECEQ.W.PHL", 0x7c000312#32, 0xffe007ff#32, .dsp⟩,
  ⟨"PRECEQ.W.PHR", 0x7c000352#32, 0xffe007ff#32, .dsp⟩,
  ⟨"ABSQ_S.W", 0x7c000452#32, 0xffe007ff#32, .dsp⟩,
  ⟨"BITREV", 0x7c0006d2#32, 0xffe007ff#32, .dsp⟩,
  ⟨"PRECEU.PH.QBL", 0x7c000712#32, 0xffe007ff#32, .dsp⟩,
  ⟨"PRECEU.PH.QBR", 0x7c000752#32, 0xffe007ff#32, .dsp⟩,
  ⟨"PRECEU.PH.QBLA", 0x7c000792#32, 0xffe007ff#32, .dsp⟩,
  ⟨"PRECEU.PH.QBRA", 0x7c0007d2#32, 0xffe007ff#32, .dsp⟩]

def rowsShllQb : List OpcodeRow := [
  ⟨"SHLL.QB", 0x7c000013#32, 0xff0007ff#32, .dsp⟩,
  ⟨"SHRL.QB", 0x7c000053#32, 0xff0007ff#32, .dsp⟩,
  ⟨"SHLLV.QB", 0x7c000093#32, 0xfc0007ff#32, .dsp⟩,
  ⟨"SHRLV.QB", 0x7c0000d3#32, 0xfc0007ff#32, .dsp⟩,
  ⟨"SHRA.QB", 0x7c000113#32, 0xff0007ff#32, .dspR2⟩,
  ⟨"SHRA_R.QB", 0x7c000153#32, 0xff0007ff#32, .dspR2⟩,
  ⟨"SHRAV.QB", 0x7c000193#32, 0xfc0007ff#32, .dspR2⟩,
  ⟨"SHRAV_R.QB", 0x7c0001d3#32, 0xfc0007ff#32, .dspR2⟩,
  ⟨"SHLL.PH", 0x7c000213#32, 0xfe0007ff#32, .dsp⟩,
  ⟨"SHRA.PH", 0x7c000253#32, 0xfe0007ff#32, .dsp⟩,
  ⟨"SHLLV.PH", 0x7c000293#32, 0xfc0007ff#32, .dsp⟩,
  ⟨"SHRAV.PH", 0x7c0002d3#32, 0xfc0007ff#32, .dsp⟩,
  ⟨"SHLL_S.PH", 0x7c000313#32, 0xfe0007ff#32, .dsp⟩,
  ⟨"SHRA_R.PH", 0x7c000353#32, 0xfe0007ff#32, .dsp⟩,
  ⟨"SHLLV_S.PH", 0x7c000393#32, 0xfc0007ff#32, .dsp⟩,
  ⟨"SHRAV_R.PH", 0x7c0003d3#32, 0xfc0007ff#32, .dsp⟩,
  ⟨"SHLL_S.W", 0x7c000513#32, 0xfc0007ff#32, .dsp⟩,
  ⟨"SHRA_R.W", 0x7c000553#32, 0xfc0007ff#32, .dsp⟩,
  ⟨"SHLLV_S.W", 0x7c000593#32, 0xfc0007ff#32, .dsp⟩,
  ⟨"SHRAV_R.W", 0x7c0005d3#32, 0xfc0007ff#32, .dsp⟩,
  ⟨"SHRL.PH", 0x7c000653#32, 0xfe0007ff#32, .dspR2⟩,
  ⟨"SHRLV.PH", 0x7c0006d3#32, 0xfc0007ff#32, .dspR2⟩]

def rowsAdduhQb : List OpcodeRow := [
  ⟨"ADDUH.QB", 0x7c000018#32, 0xfc0007ff#32, .dspR2⟩,
  ⟨"SUBUH.QB", 0x7c000058#32, 0xfc0007ff#32, .dspR2⟩,
  ⟨"ADDUH_R.QB", 0x7c000098#32, 0xfc0007ff#32, .dspR2⟩,
  ⟨"SUBUH_R.QB", 0x7c0000d8#32, 0xfc0007ff#32, .dspR2⟩,
  ⟨"ADDQH.PH", 0x7c000218#32, 0xfc0007ff#32, .dspR2⟩,
  ⟨"SUBQH.PH", 0x7c000258#32, 0xfc0007ff#32, .dspR2⟩,
  ⟨"ADDQH_R.PH", 0x7c000298#32, 0xfc0007ff#32, .dspR2⟩,
  ⟨"SUBQH_R.PH", 0x7c0002d8#32, 0xfc0007ff#32, .dspR2⟩,
  ⟨"MUL.PH", 0x7c000318#32, 0xfc0007ff#32, .dspR2⟩,
  ⟨"MUL_S.PH", 0x7c000398#32, 0xfc0007ff#32, .dspR2⟩,
  ⟨"ADDQH.W", 0x7c000418#32, 0xfc0007ff#32, .dspR2⟩,
  ⟨"SUBQH.W", 0x7c000458#32, 0xfc0007ff#32, .dspR2⟩,
  ⟨"ADDQH_R.W", 0x7c000498#32, 0xfc0007ff#32, .dspR2⟩,
  ⟨"SUBQH_R.W", 0x7c0004d8#32, 0xfc0007ff#32, .dspR2⟩,
  ⟨"MULQ_S.W", 0x7c000598#32, 0xfc0007ff#32, .dspR2⟩,
  ⟨"MULQ_RS.W", 0x7c0005d8#32, 0xfc0007ff#32, .dspR2⟩]

def rowsDpaWPh : List OpcodeRow := [
  ⟨"DPA.W.PH", 0x7c000030#32, 0xfc00e7ff#32, .dspR2⟩,
  ⟨"DPS.W.PH", 0x7c000070#32, 0xfc00e7ff#32, .dspR2⟩,
  ⟨"MULSA.W.PH", 0x7c0000b0#32, 0xfc00e7ff#32, .dspR2⟩,
  ⟨"DPAU.H.QBL", 0x7c0000f0#32, 0xfc00e7ff#32, .dsp⟩,
  ⟨"DPAQ_S.W.PH", 0x7c000130#32, 0xfc00e7ff#32, .dsp⟩,
  ⟨"DPSQ_S.W.PH", 0x7c000170#32, 0xfc00e7ff#32, .dsp⟩,
  ⟨"MULSAQ_S.W.PH", 0x7c0001b0#32, 0xfc00e7ff#32, .dsp⟩,
  ⟨"DPAU.H.QBR", 0x7c0001f0#32, 0xfc00e7ff#32, .dsp⟩,
  ⟨"DPAX.W.PH", 0x7c000230#32, 0xfc00e7ff#32, .dspR2⟩,
  ⟨"DPSX.W.PH", 0x7c000270#32, 0xfc00e7ff#32, .dspR2⟩,
  ⟨"DPSU.H.QBL", 0x7c0002f0#32, 0xfc00e7ff#32, .dsp⟩,
  ⟨"DPAQ_SA.L.W", 0x7c000330#32, 0xfc00e7ff#32, .dsp⟩,
  ⟨"DPSQ_SA.L.W", 0x7c000370#32, 0xfc00e7ff#32, .dsp⟩,
  ⟨"DPSU.H.QBR", 0x7c0003f0#32, 0xfc00e7ff#32, .dsp⟩,
  ⟨"MAQ_SA.W.PHL", 0x7c000430#32, 0xfc00e7ff#32, .dsp⟩,
  ⟨"MAQ_SA.W.PHR", 0x7c0004b0#32, 0xfc00e7ff#32, .dsp⟩,
  ⟨"MAQ_S.W.PHL", 0x7c000530#32, 0xfc00e7ff#32, .dsp⟩,
  ⟨"MAQ_S.W.PHR", 0x7c0005b0#32, 0xfc00e7ff#32, .dsp⟩,
  ⟨"DPAQX_S.W.PH", 0x7c000630#32, 0xfc00e7ff#32, .dspR2⟩,
  ⟨"DPSQX_S.W.PH", 0x7c000670#32, 0xfc00e7ff#32, .dspR2⟩,
  ⟨"DPAQX_SA.W.PH", 0x7c0006b0#32, 0xfc00e7ff#32, .dspR2⟩,
  ⟨"DPSQX_SA.W.PH", 0x7c0006f0#32, 0xfc00e7ff#32, .dspR2⟩]

def rowsExtrW : List OpcodeRow := [
  ⟨"EXTR.W", 0x7c000038#32, 0xfc00e7ff#32, .dsp⟩,
  ⟨"EXTRV.W", 0x7c000078#32, 0xfc00e7ff#32, .dsp⟩,
  ⟨"EXTP", 0x7c0000b8#32, 0xfc00e7ff#32, .dsp⟩,
  ⟨"EXTPV", 0x7c0000f8#32, 0xfc00e7ff#32, .dsp⟩,
  ⟨"EXTR_R.W", 0x7c000138#32, 0xfc00e7ff#32, .dsp⟩,
  ⟨"EXTRV_R.W", 0x7c000178#32, 0xfc00e7ff#32, .dsp⟩,
  ⟨"EXTR_RS.W", 0x7c0001b8#32, 0xfc00e7ff#32, .dsp⟩,
  ⟨"EXTRV_RS.W", 0x7c0001f8#32, 0xfc00e7ff#32, .dsp⟩,
  ⟨"EXTPDP", 0x7c0002b8#32, 0xfc00e7ff#32, .dsp⟩,
  ⟨"EXTPDPV", 0x7c0002f8#32, 0xfc00e7ff#32, .dsp⟩,
  ⟨"EXTR_S.H", 0x7c0003b8#32, 0xfc00e7ff#32, .dsp⟩,
  ⟨"EXTRV_S.H", 0x7c0003f8#32, 0xfc00e7ff#32, .dsp⟩,
  ⟨"RDDSP", 0x7c0004b8#32, 0xfc0007ff#32, .dsp⟩,
  ⟨"WRDSP", 0x7c0004f8#32, 0xfc0007ff#32, .dsp⟩,
  ⟨"SHILO", 0x7c0006b8#32, 0xfc0fe7ff#32, .dsp⟩,
  ⟨"SHILOV", 0x7c0006f8#32, 0xfc1fe7ff#32, .dsp⟩,
  ⟨"MTHLIP", 0x7c0007f8#32, 0xfc1fe7ff#32, .dsp⟩]

def rowsOther : List OpcodeRow := [
  ⟨"APPEND", 0x7c000031#32, 0xfc0007ff#32, .dspR2⟩,
  ⟨"PREPEND", 0x7c000071#32, 0xfc0007ff#32, .dspR2⟩,
  ⟨"BALIGN", 0x7c000431#32, 0xfc00e7ff#32, .dspR2⟩,
  ⟨"LWX", 0x7c00000a#32, 0xfc0007ff#32, .dsp⟩,
  ⟨"LHX", 0x7c00010a#32, 0xfc0007ff#32, .dsp⟩,
  ⟨"LBUX", 0x7c00018a#32, 0xfc0007ff#32, .dsp⟩,
  ⟨"LDX", 0x7c00020a#32, 0xfc0007ff#32, .dsp⟩,
  ⟨"INSV", 0x7c00000c#32, 0xfc00ffff#32, .dsp⟩,
  ⟨"BPOSGE32", 0x041c0000#32, 0xffff0000#32, .dsp⟩,
  ⟨"BPOSGE32C", 0x04180000#32, 0xffff0000#32, .dspR3⟩,
  ⟨"MADD", 0x70000000#32, 0xfc00e7ff#32, .preR6⟩,
  ⟨"MADDU", 0x70000001#32, 0xfc00e7ff#32, .preR6⟩,
  ⟨"MSUB", 0x70000004#32, 0xfc00e7ff#32, .preR6⟩,
  ⟨"MSUBU", 0x70000005#32, 0xfc00e7ff#32, .preR6⟩,
  ⟨"MULT", 0x00000018#32, 0xfc00e7ff#32, .preR6⟩,
  ⟨"MULTU", 0x00000019#32, 0xfc00e7ff#32, .preR6⟩,
  ⟨"MFHI", 0x00000010#32, 0xff9f07ff#32, .preR6⟩,
  ⟨"MFLO", 0x00000012#32, 0xff9f07ff#32, .preR6⟩,
  ⟨"MTHI", 0x00000011#32, 0xfc1fe7ff#32, .preR6⟩,
  ⟨"MTLO", 0x00000013#32, 0xfc1fe7ff#32, .preR6⟩]

/-- The 161 rows (R93 d). -/
def opcodeRows : List OpcodeRow :=
  rowsAdduQb ++ rowsCmpuEqQb ++ rowsAbsqSPh ++ rowsShllQb ++ rowsAdduhQb ++ rowsDpaWPh ++ rowsExtrW ++ rowsOther

end Sys2Proof
end

