-- ==== Sys2Proof/Config.lean ====
section
/-!
DEFINITION. What an implementation fixes (`00_scope.md` R4) and the free values of the machine.

The parameters that a model "may take as an argument" are the record `Params`; the machine's state carries one
(`Machine/State.lean`, log 7), so that a statement over all states holds for every choice of them.
-/

namespace Sys2Proof.Config

/-- Width of a general register (R4). -/
def gprLen : Nat := 64

/-- Width of a physical address; unused under the identity translation (R4, `20_memory.md` R55; log 20). -/
def physSize : Nat := 64

/-- The `ReverseEndian` signal of the LBUX page (R4, `20_memory.md` R56; log 20). -/
def reverseEndian : Bool := false

/-- `DSP_REV` (R4, decision D1). -/
inductive DspRev where
  | r1 | r2 | r3
  deriving DecidableEq, Repr

/-- The revision as the number that `DSP_CHECK` compares (`60_exceptions.md` R412). -/
def DspRev.number : DspRev → Nat
  | .r1 => 1
  | .r2 => 2
  | .r3 => 3

/-- `BASE_RELEASE` (R4, decision D2). -/
inductive BaseRelease where
  | pre6 | r6
  deriving DecidableEq, Repr

/-- The exceptions that the fault oracle may answer (`20_memory.md` R58, `60_exceptions.md` R417). -/
inductive LoadFault where
  | tlbRefill | tlbInvalid | addressError | busError | watch
  deriving DecidableEq, Repr

/-- One line of the fault oracle: a load of `width` bytes whose address lies from `first` to `last` raises `kind`. -/
structure FaultRange where
  first : Addr
  last : Addr
  width : Nat
  kind : LoadFault
  deriving DecidableEq, Repr

/-- The parameters of R4 that a model takes as arguments. -/
structure Params where
  /-- `DSP_REV`. -/
  dspRev : DspRev
  /-- `BASE_RELEASE`. -/
  baseRelease : BaseRelease
  /-- `BIG_ENDIAN`, OPEN in the spec (decision D6). -/
  bigEndian : Bool
  /-- `MemFault` as a table of which the first line that fits answers (`20_memory.md` R58, log 16). -/
  memFault : List FaultRange
  deriving DecidableEq, Repr

/-- The values R4 gives, and little-endian data where it gives none (DESIGN CHOICE, unsafe: log 8). -/
def defaultParams : Params :=
  { dspRev := .r3, baseRelease := .pre6, bigEndian := false, memFault := [] }

/-- The values that `ANY(n)` draws (`00_scope.md` R6, `93_implementation_defined.md`): the value of draw number `k`.
It has no body, so nothing can be proved of it (log 9). -/
opaque freeValue : Nat → DWord

end Sys2Proof.Config
end

