-- ==== Sys2Proof/Machine/State.lean ====
section
/-!
DEFINITION. The state of the machine as plain data: everything `10_state.md` names, the memory of `20_memory.md`, the
parameters of `00_scope.md` R4 and the counter of the free values; the reasons a step can stop; reset.
-/

namespace Sys2Proof.Machine

open Sys2Proof.Config

/-- One accumulator: its `HI` and `LO` halves (`10_state.md` R26). -/
structure Accum where
  hi : DWord
  lo : DWord
  deriving DecidableEq, Repr

/-- Which slot the instruction at `pc` is in. The spec's `in_slot` is `slot ≠ none`; R203 and R205 of
`42_branch_compare_pick.md` ask further which branch set it (log 10). -/
inductive Slot where
  | none
  /-- The instruction after a BPOSGE32. -/
  | delay
  /-- The instruction after a BPOSGE32C that was not taken. -/
  | forbidden
  deriving DecidableEq, Repr

/-- Memory: (address, byte) pairs in one canonical form (`Memory.wf` in `Machine/Ops.lean`). -/
abbrev Memory := List Host.Cell

/-- The machine. -/
structure State where
  /-- `GPR[0]`..`GPR[31]` (`10_state.md` R20). Read and written through `State.gpr` and `State.setGpr` (R21). -/
  gprs : Vector DWord 32
  /-- The address of the instruction being executed (R23). -/
  pc : Addr
  /-- `ac0`..`ac3` (R26). -/
  accs : Vector Accum 4
  /-- `DSPControl` (R31). -/
  dspControl : Word
  /-- `DSPEnabled` (R38). -/
  dspEnabled : Bool
  /-- `ac0_unread` (R30). -/
  ac0Unread : Bool
  /-- `in_slot`, with the branch that set it (R39). -/
  slot : Slot
  /-- `delayed` (R24, R39). -/
  delayed : Option Addr
  /-- `M` (`20_memory.md` R52). -/
  mem : Memory
  /-- The parameters (`00_scope.md` R4). -/
  params : Params
  /-- The MODEL's field: how many free values have been drawn (`00_scope.md` R6, log 9). -/
  draws : Nat
  deriving DecidableEq, Repr

/-- The seven exceptions (`60_exceptions.md` R411). -/
inductive Cause where
  | reservedInstruction | dspDisabled | addressError | tlbRefill | tlbInvalid | busError | watch
  deriving DecidableEq, Repr

/-- The trap record (`60_exceptions.md` R420). -/
structure Trap where
  cause : Cause
  /-- A virtual address, or the instruction word zero-extended (R411). -/
  info : DWord
  /-- The address of the instruction that raised. -/
  pc : Addr
  /-- It was in a delay slot or a forbidden slot. -/
  inSlot : Bool
  /-- Where the environment resumes (R424). -/
  restart : Addr
  deriving DecidableEq, Repr

/-- Why an operation is UNPREDICTABLE as a whole (`60_exceptions.md` R422): the one case in scope. -/
inductive UnpredReason where
  /-- A control transfer instruction in the delay slot of a BPOSGE32 before Release 6
  (`42_branch_compare_pick.md` R203). -/
  | ctiInDelaySlot
  deriving DecidableEq, Repr

/-- How a step ends with no next state. -/
inductive Fault where
  /-- An exception: the record R420 returns "in place of a next state", the state unchanged. Raised by the fetch, the
  decoder, `DSP_CHECK`, the branches in a slot and the loads. Safe: the spec ends the run there (log 1). -/
  | trap (t : Trap)
  /-- `UNPRED_OP` of R422, "no state after that point is defined". Raised by BPOSGE32 and BPOSGE32C in a delay slot
  with `BASE_RELEASE` = pre6. Safe: nothing can be proved of what follows (log 12). -/
  | unpredOp (reason : UnpredReason)
  deriving DecidableEq, Repr

/-- Why the model has no meaning for an instruction. -/
inductive Refusal where
  /-- An instruction not modelled yet. No arm of `exec` answers it. Safe: the model stops. -/
  | notModelled (mnemonic : String)
  deriving DecidableEq, Repr

/-- What a step ends in. -/
abbrev Outcome := Host.Outcome State Fault Refusal

/-- Reset as the spec has it: a function of the values it leaves unspecified (`70_reset_and_hazards.md` R440,
`10_state.md` R40). `GPR[0]` and bit 15 of `DSPControl` are 0, the Module is disabled, nothing is unread or delayed. -/
def State.resetWith (params : Params) (gprs : Vector DWord 32) (accs : Vector Accum 4) (dspControl : Word)
    (pc : Addr) (mem : Memory) : State :=
  { gprs := gprs.set 0 0#64
    pc := pc
    accs := accs
    dspControl := dspControl &&& 0xFFFF7FFF#32
    dspEnabled := false
    ac0Unread := false
    slot := .none
    delayed := none
    mem := mem
    params := params
    draws := 0 }

/-- The machine right after reset. The values the spec leaves unspecified are those the log names: zero registers,
accumulators, `DSPControl` and memory (DESIGN CHOICE: log 2, 3, 4, 6) and the family's reset vector (PRESUMED: log
5). -/
def State.reset : State :=
  .resetWith defaultParams (Vector.replicate 32 0#64) (Vector.replicate 4 ⟨0#64, 0#64⟩) 0#32 0xFFFFFFFFBFC00000#64 []

end Sys2Proof.Machine
end

