-- ==== Sys2Proof/Machine/Ops.lean ====
section
/-!
DEFINITION. The named operations over registers, accumulators, `DSPControl`, memory and the program counter; taking
an exception and the restart after one; the common prologue `DSP_CHECK`; the frame of an ordinary instruction, of a
branch and of a load. Every meaning is written over these.
-/

namespace Sys2Proof.Machine

open Sys2Proof.Config

/-! ### General registers (`10_state.md` R20 to R22) -/

/-- `GPR[r]`: register 0 reads as zero (R21, log 13). -/
def State.gpr (s : State) (r : Reg) : DWord := if r = 0 then 0#64 else s.gprs.get r

/-- `GPR[r] <- v`: a write to register 0 is discarded (R21, log 13). -/
def State.setGpr (s : State) (r : Reg) (v : DWord) : State :=
  { s with gprs := if r = 0 then s.gprs else s.gprs.set r v }

/-- `GPR[r][31:0]`. -/
def State.word (s : State) (r : Reg) : Word := (s.gpr r).extractLsb' 0 32

/-- `GPR[r] <- W32(w)` (`00_scope.md` R6, R8). -/
def State.setWord (s : State) (r : Reg) (w : Word) : State := s.setGpr r (w.signExtend 64)

/-! ### Accumulators (`10_state.md` R26 to R28) -/

def State.hi (s : State) (a : Acc) : DWord := (s.accs.get a).hi

def State.lo (s : State) (a : Acc) : DWord := (s.accs.get a).lo

/-- `HI[a] <- h; LO[a] <- l`. -/
def State.setHiLo (s : State) (a : Acc) (h l : DWord) : State := { s with accs := s.accs.set a ⟨h, l⟩ }

/-- `acc(a)`: the low words of both halves (R27). -/
def State.acc (s : State) (a : Acc) : DWord := (s.hi a).extractLsb' 0 32 ++ (s.lo a).extractLsb' 0 32

/-- `set_acc(a, v)`: both halves sign-extended (R28). -/
def State.setAcc (s : State) (a : Acc) (v : DWord) : State :=
  s.setHiLo a ((v.extractLsb' 32 32).signExtend 64) ((v.extractLsb' 0 32).signExtend 64)

/-! ### DSPControl (`10_state.md` R31 to R37) -/

/-- `d` with bits `lo + n - 1` down to `lo` replaced by `v`. -/
def setBits (d : Word) (lo : Nat) {n : Nat} (v : BitVec n) : Word :=
  (d &&& ~~~((BitVec.allOnes n).setWidth 32 <<< lo)) ||| (v.setWidth 32 <<< lo)

/-- `pos`, all seven bits (R32). -/
def State.pos (s : State) : BitVec 7 := s.dspControl.extractLsb' 0 7

/-- `DSPControl[5:0]`: the part of `pos` that EXTP, EXTPV, EXTPDP, EXTPDPV and INSV read (R32). -/
def State.posLow (s : State) : BitVec 6 := s.dspControl.extractLsb' 0 6

/-- `scount` (R37). -/
def State.scount (s : State) : BitVec 6 := s.dspControl.extractLsb' 7 6

/-- `c` (R35). -/
def State.carry (s : State) : BitVec 1 := s.dspControl.extractLsb' 13 1

/-- `EFI` (R36). -/
def State.efi (s : State) : BitVec 1 := s.dspControl.extractLsb' 14 1

/-- `ouflag` (R33). -/
def State.ouflag (s : State) : BitVec 8 := s.dspControl.extractLsb' 16 8

/-- `ccond` (R34). -/
def State.ccond (s : State) : BitVec 8 := s.dspControl.extractLsb' 24 8

def State.setPos (s : State) (v : BitVec 7) : State := { s with dspControl := setBits s.dspControl 0 v }

def State.setCarry (s : State) (v : BitVec 1) : State := { s with dspControl := setBits s.dspControl 13 v }

def State.setEfi (s : State) (v : BitVec 1) : State := { s with dspControl := setBits s.dspControl 14 v }

def State.setCcond (s : State) (v : BitVec 8) : State := { s with dspControl := setBits s.dspControl 24 v }

/-- `set_ouflag(n)` where the condition `c` holds, for `n` in 16..23: the bit is never cleared (R33). -/
def State.raiseOuflag (s : State) (n : Nat) (c : Bool) : State :=
  { s with dspControl := if c then setBits s.dspControl n 1#1 else s.dspControl }

/-- The `ouflag` bit of accumulator `a` (R33): 16 to 19. -/
def accFlag (a : Acc) : Nat := 16 + a.val

/-! ### Free values (`00_scope.md` R6) -/

/-- `ANY(n)`: the low `n` bits of the `k`-th draw from now, counted from 0 (log 9, log 26). -/
def State.any (s : State) (n k : Nat) : BitVec n := (freeValue (s.draws + k)).setWidth n

/-- The state after `k` draws. -/
def State.drawn (s : State) (k : Nat) : State := { s with draws := s.draws + k }

/-- `GPR[r] <- ANY(64)`. -/
def State.setGprAny (s : State) (r : Reg) : State := (s.setGpr r (s.any 64 0)).drawn 1

/-- `HI[a] <- ANY(64); LO[a] <- ANY(64)`, in that order (log 26). -/
def State.setHiLoAny (s : State) (a : Acc) : State := (s.setHiLo a (s.any 64 0) (s.any 64 1)).drawn 2

/-! ### Results with a flag -/

/-- A word result into `GPR[r]`, its flag into `DSPControl[n]`. -/
def State.setWordFlag (s : State) (r : Reg) (n : Nat) (v : Flagged 32) : State := (s.raiseOuflag n v.2).setWord r v.1

/-- A 64-bit result into accumulator `a`, its flag into `DSPControl[16+a]` (R33). -/
def State.setAccFlag (s : State) (a : Acc) (v : Flagged 64) : State := (s.raiseOuflag (accFlag a) v.2).setAcc a v.1

/-! ### Memory (`20_memory.md`) -/

/-- What an address reads as that memory does not list (DESIGN CHOICE, unsafe: log 6). -/
def Memory.unlisted : Byte := 0#8

/-- `M[a]`. -/
def Memory.read : Memory → Nat → Byte
  | [], _ => Memory.unlisted
  | (k, b) :: m, a => if a = k then b else Memory.read m a

/-- An entry in front of a list, left out where it says what an unlisted address reads as. -/
def Memory.entry (a : Nat) (b : Byte) (m : Memory) : Memory := if b = Memory.unlisted then m else (a, b) :: m

/-- Memory with byte `b` at address `a`, in canonical form again. -/
def Memory.write : Memory → Nat → Byte → Memory
  | [], a, b => Memory.entry a b []
  | (k, c) :: m, a, b =>
    if a < k then Memory.entry a b ((k, c) :: m)
    else if a = k then Memory.entry a b m
    else (k, c) :: Memory.write m a b

/-- The canonical form above the address `low`: addresses strictly rising, at least `low`, inside the address space,
and no entry that says what an unlisted address reads as. -/
def Memory.wfFrom : Nat → Memory → Bool
  | _, [] => true
  | low, (k, b) :: m => decide (low ≤ k) && decide (k < 2 ^ 64) && decide (b ≠ Memory.unlisted) && wfFrom (k + 1) m

/-- The canonical form of memory. -/
def Memory.wf (m : Memory) : Bool := Memory.wfFrom 0 m

/-- One byte of memory. -/
def State.readByte (s : State) (a : Addr) : Byte := Memory.read s.mem a.toNat

/-- `MemRead(a, 2)` (R52). -/
def State.read16 (s : State) (a : Addr) : Half :=
  joinOrdered s.params.bigEndian (s.readByte a) (s.readByte (a + 1#64))

/-- `MemRead(a, 4)` (R52). -/
def State.read32 (s : State) (a : Addr) : Word := joinOrdered s.params.bigEndian (s.read16 a) (s.read16 (a + 2#64))

/-- `MemRead(a, 8)` (R52). -/
def State.read64 (s : State) (a : Addr) : DWord := joinOrdered s.params.bigEndian (s.read32 a) (s.read32 (a + 4#64))

/-- The virtual address of LBUX, LHX and LWX: the sign-extended sum of the low words (R53, decision D8). -/
def State.wordAddress (s : State) (index base : Reg) : Addr := (s.word index + s.word base).signExtend 64

/-- The virtual address of LDX: the 64-bit sum (R53). -/
def State.dwordAddress (s : State) (index base : Reg) : Addr := s.gpr index + s.gpr base

/-- Does the line answer a load of `n` bytes at `a`? -/
def coversLoad (r : FaultRange) (a : Addr) (n : Nat) : Bool :=
  decide (r.first.toNat ≤ a.toNat) && decide (a.toNat ≤ r.last.toNat) && decide (r.width = n)

/-- `MemFault(a, n)` (R58): the first line that answers. -/
def memFault : List FaultRange → Addr → Nat → Option LoadFault
  | [], _, _ => none
  | r :: rs, a, n => if coversLoad r a n then some r.kind else memFault rs a n

/-- The exception an oracle's answer names. -/
def causeOf : LoadFault → Cause
  | .tlbRefill => .tlbRefill
  | .tlbInvalid => .tlbInvalid
  | .addressError => .addressError
  | .busError => .busError
  | .watch => .watch

/-! ### Taking an exception (`60_exceptions.md` R420) and the restart after one (R424) -/

/-- `in_slot` (`10_state.md` R39). -/
def State.inSlot (s : State) : Bool := decide (s.slot ≠ .none)

/-- The trap record of an exception in state `s` (R420). -/
def trapOf (c : Cause) (info : DWord) (s : State) : Trap :=
  { cause := c
    info := info
    pc := s.pc
    inSlot := s.inSlot
    restart := if s.inSlot then s.pc - 4#64 else s.pc }

/-- `raise E(info)`: the instruction is abandoned with the state unchanged and the record stands "in place of a next
state" (R420, log 1). -/
def raise (c : Cause) (info : DWord) (s : State) : Outcome := .fault (.trap (trapOf c info s))

/-- The state in which the environment runs the machine again after trap `t`: at `restart`, with `delayed` cleared
and `in_slot` false (R424). No step does this (log 24). -/
def State.resumeAfter (s : State) (t : Trap) : State := { s with pc := t.restart, slot := .none, delayed := none }

/-- The `info` of an exception about the instruction itself: its word, zero-extended (R411, log 14). -/
def instrInfo (i : Instr) : DWord := (encode i).setWidth 64

/-! ### The common prologue and the program counter -/

/-- `DSP_CHECK(rev)` for the tag of a page: the exception it raises, if any (`60_exceptions.md` R412). -/
def dspCheck (tag : IsaTag) (s : State) : Option Cause :=
  if s.params.dspRev.number < tag.rev then some .reservedInstruction
  else if s.params.baseRelease = .r6 ∧ tag = .preR6 then some .reservedInstruction
  else if s.dspEnabled = false then some .dspDisabled
  else none

/-- The state in which the next instruction executes, after an instruction that is no branch (`10_state.md` R24): at
the delayed target where there is one, else at `pc + 4`; no slot, no delayed target. -/
def State.advance (s : State) : State :=
  { s with pc := s.delayed.getD (s.pc + 4#64), slot := .none, delayed := none }

/-- An instruction whose only exceptions are those of `DSP_CHECK`: the prologue, its effect (`after`
is the state with the effect on `s`), the advance. -/
def ordinary (tag : IsaTag) (i : Instr) (s after : State) : Outcome :=
  match dspCheck tag s with
  | some c => raise c (instrInfo i) s
  | none => .next after.advance

/-- The exception a load of `n` bytes at `a` raises before it reads: alignment, then the oracle (`45_loads.md`
R340 b). -/
def loadCheck (s : State) (a : Addr) (n : Nat) : Option Cause :=
  if a.toNat % n ≠ 0 then some .addressError
  else (memFault s.params.memFault a n).map causeOf

/-- A load of `n` bytes at `a`: the prologue, the checks on the address, its effect, the advance (R340). -/
def loading (tag : IsaTag) (i : Instr) (s : State) (a : Addr) (n : Nat) (after : State) : Outcome :=
  match dspCheck tag s with
  | some c => raise c (instrInfo i) s
  | none =>
    match loadCheck s a n with
    | some c => raise c a s
    | none => .next after.advance

/-- A control transfer instruction: what a slot makes of it, before `DSP_CHECK` (`42_branch_compare_pick.md` R203,
R205; `60_exceptions.md` R414, R418, R422; DEDUCED for the order before Release 6, log 12), the prologue, its effect
(which sets `pc`). -/
def branching (tag : IsaTag) (i : Instr) (s after : State) : Outcome :=
  match s.slot, s.params.baseRelease with
  | .delay, .pre6 => .fault (.unpredOp .ctiInDelaySlot)
  | .delay, .r6 => raise .reservedInstruction (instrInfo i) s
  | .forbidden, _ => raise .reservedInstruction (instrInfo i) s
  | .none, _ =>
    match dspCheck tag s with
    | some c => raise c (instrInfo i) s
    | none => .next after

/-- The condition of BPOSGE32 and BPOSGE32C: the full `pos` field is at least 32 (R202). -/
def State.posAtLeast32 (s : State) : Bool := decide (32 ≤ s.pos.toNat)

/-- The target of a branch at `pc` (R202): `pc + 4 + sext_64(offset || 00)`. -/
def State.branchTarget (s : State) (offset : BitVec 16) : Addr := s.pc + 4#64 + (offset ++ 0#2).signExtend 64

/-! ### Fetch (`20_memory.md` R56; `10_state.md` R25) -/

/-- The word at `pc`; none where `pc` is misaligned. -/
def State.fetch (s : State) : Option Word := if s.pc.toNat % 4 = 0 then some (s.read32 s.pc) else none

/-! ### What the environment does between steps (`10_state.md` R38, `20_memory.md` R59; log 11) -/

def State.setDspEnabled (s : State) (b : Bool) : State := { s with dspEnabled := b }

def State.storeByte (s : State) (a : Addr) (b : Byte) : State := { s with mem := Memory.write s.mem a.toNat b }

/-- The word `w` at address `a`, in the byte order of the machine. -/
def State.storeWord (s : State) (a : Addr) (w : Word) : State :=
  (((s.storeByte a (byteOfWord s.params.bigEndian w 0)).storeByte (a + 1#64)
    (byteOfWord s.params.bigEndian w 1)).storeByte (a + 2#64)
    (byteOfWord s.params.bigEndian w 2)).storeByte (a + 3#64) (byteOfWord s.params.bigEndian w 3)

end Sys2Proof.Machine
end

