-- ==== Sys2Proof/Machine/Accumulator.lean ====
section
/-!
DEFINITION. Meanings of the 27 instructions between accumulators, general registers and `DSPControl`: extracts, moves, base
multiplies, accumulator shifts, RDDSP and WRDSP (`44_accumulator_access.md`).
-/

namespace Sys2Proof.Machine

/-- The field sign-extended from bit 31 of its low word, as EXTP alone writes it (R282). -/
def signFromWord (f : DWord) : DWord := (f.extractLsb' 0 32).signExtend 64

/-- The end of an extract (R281): a valid field goes to `GPR[rt]` with `EFI` 0, and `pos` falls by `size + 1` where
`decrement` gives the size; an invalid one leaves a free value in `GPR[rt]` (U4) with `EFI` 1 and `pos` unchanged. -/
def State.extract (s : State) (rt : Reg) (field : Option DWord) (widen : DWord → DWord) (decrement : Option Nat) :
    State :=
  match field, decrement with
  | some f, some size => ((s.setPos (s.pos - BitVec.ofNat 7 (size + 1))).setEfi 0#1).setGpr rt (widen f)
  | some f, none => (s.setEfi 0#1).setGpr rt (widen f)
  | none, _ => (s.setEfi 1#1).setGprAny rt

/-- `ac0` counts as read (R30, decision D12); the other accumulators have no such bit. -/
def State.markAcRead (s : State) (a : Acc) : State :=
  { s with ac0Unread := if a = 0 then false else s.ac0Unread }

/-- `ac0` holds an unread result (R30). -/
def State.markAcUnread (s : State) (a : Acc) : State :=
  { s with ac0Unread := if a = 0 then true else s.ac0Unread }

/-- `set_acc(a, v)` for a result defined on word operands only: free values where `GPR[rs]` or `GPR[rt]` is no
sign-extended word (R300 a, U6). -/
def State.setAccWords (s : State) (a : Acc) (rs rt : Reg) (v : DWord) : State :=
  if notWordValue (s.gpr rs) || notWordValue (s.gpr rt) then s.setHiLoAny a else s.setAcc a v

/-- MTHLIP's moves (R301): `LO` to `HI` and the word `w` to `LO`, both sign-extended. -/
def State.copyLoToHi (s : State) (a : Acc) (w : Word) : State :=
  s.setHiLo a (((s.lo a).extractLsb' 0 32).signExtend 64) (w.signExtend 64)

/-- `DSPControl` as a whole, bit 15 kept as it is by every writer (R31). -/
def State.setControl (s : State) (d : Word) : State := { s with dspControl := d }

/-- EXTP rt, ac, size (R282). C24. -/
def execExtp (rt : Reg) (ac : Acc) (size : Nat) (s : State) : Outcome :=
  ordinary .dsp (.extp rt ac size) s
    (s.extract rt (extractField (s.acc ac) s.posLow.toNat size) signFromWord none)

/-- EXTPV rt, ac, rs (R283). C4. -/
def execExtpv (rt : Reg) (ac : Acc) (rs : Reg) (s : State) : Outcome :=
  ordinary .dsp (.extpv rt ac rs) s
    (s.extract rt (extractField (s.acc ac) s.posLow.toNat ((s.word rs).extractLsb' 0 5).toNat) id none)

/-- EXTPDP rt, ac, size (R284). -/
def execExtpdp (rt : Reg) (ac : Acc) (size : Nat) (s : State) : Outcome :=
  ordinary .dsp (.extpdp rt ac size) s
    (s.extract rt (extractField (s.acc ac) s.posLow.toNat size) id (some size))

/-- EXTPDPV rt, ac, rs (R285). -/
def execExtpdpv (rt : Reg) (ac : Acc) (rs : Reg) (s : State) : Outcome :=
  ordinary .dsp (.extpdpv rt ac rs) s
    (s.extract rt (extractField (s.acc ac)
      s.posLow.toNat ((s.word rs).extractLsb' 0 5).toNat)
      id (some ((s.word rs).extractLsb' 0 5).toNat))

/-- EXTR.W rt, ac, shift (R287). -/
def execExtrW (rt : Reg) (ac : Acc) (shift : Nat) (s : State) : Outcome :=
  ordinary .dsp (.extrW rt ac shift) s
    (s.setWordFlag rt 23 (extractTrunc (s.acc ac) shift))

/-- EXTR_R.W rt, ac, shift (R288). -/
def execExtrRW (rt : Reg) (ac : Acc) (shift : Nat) (s : State) : Outcome :=
  ordinary .dsp (.extrRW rt ac shift) s
    (s.setWordFlag rt 23 (extractRound (s.acc ac) shift))

/-- EXTR_RS.W rt, ac, shift (R289). -/
def execExtrRsW (rt : Reg) (ac : Acc) (shift : Nat) (s : State) : Outcome :=
  ordinary .dsp (.extrRsW rt ac shift) s
    (s.setWordFlag rt 23 (extractRoundSat (s.acc ac) shift))

/-- EXTRV.W rt, ac, rs (R290). C25. -/
def execExtrvW (rt : Reg) (ac : Acc) (rs : Reg) (s : State) : Outcome :=
  ordinary .dsp (.extrvW rt ac rs) s
    (s.setWordFlag rt 23 (extractTrunc (s.acc ac) ((s.word rs).extractLsb' 0 5).toNat))

/-- EXTRV_R.W rt, ac, rs (R291). C25. -/
def execExtrvRW (rt : Reg) (ac : Acc) (rs : Reg) (s : State) : Outcome :=
  ordinary .dsp (.extrvRW rt ac rs) s
    (s.setWordFlag rt 23 (extractRound (s.acc ac) ((s.word rs).extractLsb' 0 5).toNat))

/-- EXTRV_RS.W rt, ac, rs (R292). C25. -/
def execExtrvRsW (rt : Reg) (ac : Acc) (rs : Reg) (s : State) : Outcome :=
  ordinary .dsp (.extrvRsW rt ac rs) s
    (s.setWordFlag rt 23 (extractRoundSat (s.acc ac) ((s.word rs).extractLsb' 0 5).toNat))

/-- EXTR_S.H rt, ac, shift (R294). -/
def execExtrSH (rt : Reg) (ac : Acc) (shift : Nat) (s : State) : Outcome :=
  ordinary .dsp (.extrSH rt ac shift) s
    (s.setWordFlag rt 23 (extractHalfSat (s.acc ac) shift))

/-- EXTRV_S.H rt, ac, rs (R295). C26. -/
def execExtrvSH (rt : Reg) (ac : Acc) (rs : Reg) (s : State) : Outcome :=
  ordinary .dsp (.extrvSH rt ac rs) s
    (s.setWordFlag rt 23 (extractHalfSat (s.acc ac) ((s.word rs).extractLsb' 0 5).toNat))

/-- MFHI rd, ac (R296). -/
def execMfhi (rd : Reg) (ac : Acc) (s : State) : Outcome :=
  ordinary .preR6 (.mfhi rd ac) s
    ((s.markAcRead ac).setGpr rd (s.hi ac))

/-- MFLO rd, ac (R297). -/
def execMflo (rd : Reg) (ac : Acc) (s : State) : Outcome :=
  ordinary .preR6 (.mflo rd ac) s
    ((s.markAcRead ac).setGpr rd (s.lo ac))

/-- MTHI rs, ac (R298). The other half of an unread `ac0` becomes a free value
(U7, R30). -/
def execMthi (rs : Reg) (ac : Acc) (s : State) : Outcome :=
  ordinary .preR6 (.mthi rs ac) s
    (if ac = 0 ∧ s.ac0Unread = true then ((s.setHiLo ac (s.gpr rs) (s.any 64 0)).drawn 1).markAcRead ac
    else (s.setHiLo ac (s.gpr rs) (s.lo ac)).markAcRead ac)

/-- MTLO rs, ac (R299). The other half of an unread `ac0` becomes a free value
(U7, C3). -/
def execMtlo (rs : Reg) (ac : Acc) (s : State) : Outcome :=
  ordinary .preR6 (.mtlo rs ac) s
    (if ac = 0 ∧ s.ac0Unread = true then ((s.setHiLo ac (s.any 64 0) (s.gpr rs)).drawn 1).markAcRead ac
    else (s.setHiLo ac (s.hi ac) (s.gpr rs)).markAcRead ac)

/-- MTHLIP rs, ac (R301). For `pos` above 32 the new `pos` is a free value (U5). -/
def execMthlip (rs : Reg) (ac : Acc) (s : State) : Outcome :=
  ordinary .dsp (.mthlip rs ac) s
    (if s.pos.toNat > 32 then ((s.copyLoToHi ac (s.word rs)).setPos (s.any 7 0)).drawn 1
    else (s.copyLoToHi ac (s.word rs)).setPos (s.pos + 32#7))

/-- MADD ac, rs, rt (R302). -/
def execMadd (ac : Acc) (rs rt : Reg) (s : State) : Outcome :=
  ordinary .preR6 (.madd ac rs rt) s
    (s.setAccWords ac rs rt (s.acc ac + smul 64 (s.word rs) (s.word rt)))

/-- MADDU ac, rs, rt (R303). -/
def execMaddu (ac : Acc) (rs rt : Reg) (s : State) : Outcome :=
  ordinary .preR6 (.maddu ac rs rt) s
    (s.setAccWords ac rs rt (s.acc ac + umul 64 (s.word rs) (s.word rt)))

/-- MSUB ac, rs, rt (R304). -/
def execMsub (ac : Acc) (rs rt : Reg) (s : State) : Outcome :=
  ordinary .preR6 (.msub ac rs rt) s
    (s.setAccWords ac rs rt (s.acc ac - smul 64 (s.word rs) (s.word rt)))

/-- MSUBU ac, rs, rt (R305). C28. -/
def execMsubu (ac : Acc) (rs rt : Reg) (s : State) : Outcome :=
  ordinary .preR6 (.msubu ac rs rt) s
    (s.setAccWords ac rs rt (s.acc ac - umul 64 (s.word rs) (s.word rt)))

/-- MULT ac, rs, rt (R306). -/
def execMult (ac : Acc) (rs rt : Reg) (s : State) : Outcome :=
  ordinary .preR6 (.mult ac rs rt) s
    ((s.setAccWords ac rs rt (smul 64 (s.word rs) (s.word rt))).markAcUnread ac)

/-- MULTU ac, rs, rt (R307). -/
def execMultu (ac : Acc) (rs rt : Reg) (s : State) : Outcome :=
  ordinary .preR6 (.multu ac rs rt) s
    ((s.setAccWords ac rs rt (umul 64 (s.word rs) (s.word rt))).markAcUnread ac)

/-- SHILO ac, shift (R308). C2. -/
def execShilo (ac : Acc) (shift : BitVec 6) (s : State) : Outcome :=
  ordinary .dsp (.shilo ac shift) s
    (s.setAcc ac (shiftSigned (s.acc ac) shift))

/-- SHILOV ac, rs (R309). C2, C29. -/
def execShilov (ac : Acc) (rs : Reg) (s : State) : Outcome :=
  ordinary .dsp (.shilov ac rs) s
    (s.setAcc ac (shiftSigned (s.acc ac) ((s.word rs).extractLsb' 0 6)))

/-- RDDSP rd, mask (R310). Zero-extended. -/
def execRddsp (rd : Reg) (mask : BitVec 10) (s : State) : Outcome :=
  ordinary .dsp (.rddsp rd mask) s
    (s.setGpr rd ((s.dspControl &&& controlMask mask).setWidth 64))

/-- WRDSP rs, mask (R311). C30. -/
def execWrdsp (rs : Reg) (mask : BitVec 10) (s : State) : Outcome :=
  ordinary .dsp (.wrdsp rs mask) s
    (s.setControl ((s.dspControl &&& ~~~controlMask mask) ||| (s.word rs &&& controlMask mask)))

end Sys2Proof.Machine
end

