-- ==== Sys2Proof/Machine/AddSub.lean ====
section
/-!
DEFINITION. Meanings of the 33 instructions that add, subtract, take absolute values or sum elements and write a general register
(`40_arith_add_sub.md`).
-/

namespace Sys2Proof.Machine

/-- ABSQ_S.PH rd, rt (R105). -/
def execAbsqSPh (rd rt : Reg) (s : State) : Outcome :=
  ordinary .dsp (.absqSPh rd rt) s
    (s.setWordFlag rd 20 (mapPHFlag satAbs (s.word rt)))

/-- ABSQ_S.QB rd, rt (R106). -/
def execAbsqSQb (rd rt : Reg) (s : State) : Outcome :=
  ordinary .dspR2 (.absqSQb rd rt) s
    (s.setWordFlag rd 20 (mapQBFlag satAbs (s.word rt)))

/-- ABSQ_S.W rd, rt (R107). -/
def execAbsqSW (rd rt : Reg) (s : State) : Outcome :=
  ordinary .dsp (.absqSW rd rt) s
    (s.setWordFlag rd 20 (satAbs (s.word rt)))

/-- ADDQ.PH rd, rs, rt (R108). -/
def execAddqPh (rd rs rt : Reg) (s : State) : Outcome :=
  ordinary .dsp (.addqPh rd rs rt) s
    (s.setWordFlag rd 20 (zipPHFlag (wrapS .add) (s.word rs) (s.word rt)))

/-- ADDQ_S.PH rd, rs, rt (R109). -/
def execAddqSPh (rd rs rt : Reg) (s : State) : Outcome :=
  ordinary .dsp (.addqSPh rd rs rt) s
    (s.setWordFlag rd 20 (zipPHFlag (satS .add) (s.word rs) (s.word rt)))

/-- ADDQ_S.W rd, rs, rt (R110). -/
def execAddqSW (rd rs rt : Reg) (s : State) : Outcome :=
  ordinary .dsp (.addqSW rd rs rt) s
    (s.setWordFlag rd 20 (satS .add (s.word rs) (s.word rt)))

/-- ADDQH.PH rd, rs, rt (R111). -/
def execAddqhPh (rd rs rt : Reg) (s : State) : Outcome :=
  ordinary .dspR2 (.addqhPh rd rs rt) s
    (s.setWord rd (zipPH (halfS .add false) (s.word rs) (s.word rt)))

/-- ADDQH_R.PH rd, rs, rt (R112). -/
def execAddqhRPh (rd rs rt : Reg) (s : State) : Outcome :=
  ordinary .dspR2 (.addqhRPh rd rs rt) s
    (s.setWord rd (zipPH (halfS .add true) (s.word rs) (s.word rt)))

/-- ADDQH.W rd, rs, rt (R113). C6. -/
def execAddqhW (rd rs rt : Reg) (s : State) : Outcome :=
  ordinary .dspR2 (.addqhW rd rs rt) s
    (s.setWord rd (halfS .add false (s.word rs) (s.word rt)))

/-- ADDQH_R.W rd, rs, rt (R114). C6. -/
def execAddqhRW (rd rs rt : Reg) (s : State) : Outcome :=
  ordinary .dspR2 (.addqhRW rd rs rt) s
    (s.setWord rd (halfS .add true (s.word rs) (s.word rt)))

/-- ADDSC rd, rs, rt (R115). `c` is written, 0 as well as 1. -/
def execAddsc (rd rs rt : Reg) (s : State) : Outcome :=
  ordinary .dsp (.addsc rd rs rt) s
    ((s.setCarry ((addCarryOut (s.word rs) (s.word rt)).extractLsb' 32 1)).setWord rd
      ((addCarryOut (s.word rs) (s.word rt)).extractLsb' 0 32))

/-- ADDWC rd, rs, rt (R116). `c` is read, not written. -/
def execAddwc (rd rs rt : Reg) (s : State) : Outcome :=
  ordinary .dsp (.addwc rd rs rt) s
    (s.setWordFlag rd 20 (wrapOf (addCarryIn (s.word rs) (s.word rt) s.carry)))

/-- ADDU.QB rd, rs, rt (R117). C7. -/
def execAdduQb (rd rs rt : Reg) (s : State) : Outcome :=
  ordinary .dsp (.adduQb rd rs rt) s
    (s.setWordFlag rd 20 (zipQBFlag (wrapU .add) (s.word rs) (s.word rt)))

/-- ADDU_S.QB rd, rs, rt (R118). -/
def execAdduSQb (rd rs rt : Reg) (s : State) : Outcome :=
  ordinary .dsp (.adduSQb rd rs rt) s
    (s.setWordFlag rd 20 (zipQBFlag (satU .add) (s.word rs) (s.word rt)))

/-- ADDU.PH rd, rs, rt (R119). C5. -/
def execAdduPh (rd rs rt : Reg) (s : State) : Outcome :=
  ordinary .dspR2 (.adduPh rd rs rt) s
    (s.setWordFlag rd 20 (zipPHFlag (wrapU .add) (s.word rs) (s.word rt)))

/-- ADDU_S.PH rd, rs, rt (R120). C5. -/
def execAdduSPh (rd rs rt : Reg) (s : State) : Outcome :=
  ordinary .dspR2 (.adduSPh rd rs rt) s
    (s.setWordFlag rd 20 (zipPHFlag (satU .add) (s.word rs) (s.word rt)))

/-- ADDUH.QB rd, rs, rt (R121). -/
def execAdduhQb (rd rs rt : Reg) (s : State) : Outcome :=
  ordinary .dspR2 (.adduhQb rd rs rt) s
    (s.setWord rd (zipQB (halfU .add false) (s.word rs) (s.word rt)))

/-- ADDUH_R.QB rd, rs, rt (R122). -/
def execAdduhRQb (rd rs rt : Reg) (s : State) : Outcome :=
  ordinary .dspR2 (.adduhRQb rd rs rt) s
    (s.setWord rd (zipQB (halfU .add true) (s.word rs) (s.word rt)))

/-- MODSUB rd, rs, rt (R123). All 64 bits are written. -/
def execModsub (rd rs rt : Reg) (s : State) : Outcome :=
  ordinary .dsp (.modsub rd rs rt) s
    (s.setGpr rd (modSub (s.gpr rs) (s.gpr rt)))

/-- RADDU.W.QB rd, rs (R124). Zero-extended. -/
def execRadduWQb (rd rs : Reg) (s : State) : Outcome :=
  ordinary .dsp (.radduWQb rd rs) s
    (s.setGpr rd ((sumBytes (s.word rs)).setWidth 64))

/-- SUBQ.PH rd, rs, rt (R125). -/
def execSubqPh (rd rs rt : Reg) (s : State) : Outcome :=
  ordinary .dsp (.subqPh rd rs rt) s
    (s.setWordFlag rd 20 (zipPHFlag (wrapS .sub) (s.word rs) (s.word rt)))

/-- SUBQ_S.PH rd, rs, rt (R126). -/
def execSubqSPh (rd rs rt : Reg) (s : State) : Outcome :=
  ordinary .dsp (.subqSPh rd rs rt) s
    (s.setWordFlag rd 20 (zipPHFlag (satS .sub) (s.word rs) (s.word rt)))

/-- SUBQ_S.W rd, rs, rt (R127). -/
def execSubqSW (rd rs rt : Reg) (s : State) : Outcome :=
  ordinary .dsp (.subqSW rd rs rt) s
    (s.setWordFlag rd 20 (satS .sub (s.word rs) (s.word rt)))

/-- SUBQH.PH rd, rs, rt (R128). -/
def execSubqhPh (rd rs rt : Reg) (s : State) : Outcome :=
  ordinary .dspR2 (.subqhPh rd rs rt) s
    (s.setWord rd (zipPH (halfS .sub false) (s.word rs) (s.word rt)))

/-- SUBQH_R.PH rd, rs, rt (R129). -/
def execSubqhRPh (rd rs rt : Reg) (s : State) : Outcome :=
  ordinary .dspR2 (.subqhRPh rd rs rt) s
    (s.setWord rd (zipPH (halfS .sub true) (s.word rs) (s.word rt)))

/-- SUBQH.W rd, rs, rt (R130). C6. -/
def execSubqhW (rd rs rt : Reg) (s : State) : Outcome :=
  ordinary .dspR2 (.subqhW rd rs rt) s
    (s.setWord rd (halfS .sub false (s.word rs) (s.word rt)))

/-- SUBQH_R.W rd, rs, rt (R131). C6. -/
def execSubqhRW (rd rs rt : Reg) (s : State) : Outcome :=
  ordinary .dspR2 (.subqhRW rd rs rt) s
    (s.setWord rd (halfS .sub true (s.word rs) (s.word rt)))

/-- SUBU.QB rd, rs, rt (R132). -/
def execSubuQb (rd rs rt : Reg) (s : State) : Outcome :=
  ordinary .dsp (.subuQb rd rs rt) s
    (s.setWordFlag rd 20 (zipQBFlag (wrapU .sub) (s.word rs) (s.word rt)))

/-- SUBU_S.QB rd, rs, rt (R133). -/
def execSubuSQb (rd rs rt : Reg) (s : State) : Outcome :=
  ordinary .dsp (.subuSQb rd rs rt) s
    (s.setWordFlag rd 20 (zipQBFlag (satU .sub) (s.word rs) (s.word rt)))

/-- SUBU.PH rd, rs, rt (R134). `rs - rt` (conflict C8, log 19). -/
def execSubuPh (rd rs rt : Reg) (s : State) : Outcome :=
  ordinary .dspR2 (.subuPh rd rs rt) s
    (s.setWordFlag rd 20 (zipPHFlag (wrapU .sub) (s.word rs) (s.word rt)))

/-- SUBU_S.PH rd, rs, rt (R135). `rs - rt` (conflict C8, log 19). -/
def execSubuSPh (rd rs rt : Reg) (s : State) : Outcome :=
  ordinary .dspR2 (.subuSPh rd rs rt) s
    (s.setWordFlag rd 20 (zipPHFlag (satU .sub) (s.word rs) (s.word rt)))

/-- SUBUH.QB rd, rs, rt (R136). -/
def execSubuhQb (rd rs rt : Reg) (s : State) : Outcome :=
  ordinary .dspR2 (.subuhQb rd rs rt) s
    (s.setWord rd (zipQB (halfU .sub false) (s.word rs) (s.word rt)))

/-- SUBUH_R.QB rd, rs, rt (R137). -/
def execSubuhRQb (rd rs rt : Reg) (s : State) : Outcome :=
  ordinary .dspR2 (.subuhRQb rd rs rt) s
    (s.setWord rd (zipQB (halfU .sub true) (s.word rs) (s.word rt)))

end Sys2Proof.Machine
end

