-- ==== Sys2Proof/Machine/BitPack.lean ====
section
/-!
DEFINITION. Meanings of the 27 instructions that splice, pack, replicate, widen or narrow bits between general registers
(`41_bit_pack_precision.md`).
-/

namespace Sys2Proof.Machine

/-- APPEND rt, rs, sa (R160). -/
def execAppend (rt rs : Reg) (sa : Nat) (s : State) : Outcome :=
  ordinary .dspR2 (.append rt rs sa) s
    (s.setWord rt (appendWord (s.word rt) (s.word rs) sa))

/-- PREPEND rt, rs, sa (R164). -/
def execPrepend (rt rs : Reg) (sa : Nat) (s : State) : Outcome :=
  ordinary .dspR2 (.prepend rt rs sa) s
    (s.setWord rt (prependWord (s.word rt) (s.word rs) sa))

/-- BALIGN rt, rs, bp (R161). For `bp` of 0 and 2 the result is a free value (U1); C14. -/
def execBalign (rt rs : Reg) (bp : Nat) (s : State) : Outcome :=
  ordinary .dspR2 (.balign rt rs bp) s
    (if bp = 0 ∨ bp = 2 then s.setGprAny rt else s.setWord rt (alignWord (s.word rt) (s.word rs) bp))

/-- BITREV rd, rt (R162). Zero-extended. -/
def execBitrev (rd rt : Reg) (s : State) : Outcome :=
  ordinary .dsp (.bitrev rd rt) s
    (s.setGpr rd ((reverseHalf ((s.word rt).extractLsb' 0 16)).setWidth 64))

/-- INSV rt, rs (R166). Bits 63..32 copy the old bit 31 (V7); outside the defined cases the result is a
free value (U2). -/
def execInsv (rt rs : Reg) (s : State) : Outcome :=
  ordinary .dsp (.insv rt rs) s
    (if insertDefined s.posLow.toNat s.scount.toNat = true ∧ notWordValue (s.gpr rs) = false ∧
        notWordValue (s.gpr rt) = false then
      s.setGpr rt (insertDWord (s.word rt) (s.word rs) s.posLow.toNat s.scount.toNat)
    else s.setGprAny rt)

/-- PACKRL.PH rd, rs, rt (R163). -/
def execPackrlPh (rd rs rt : Reg) (s : State) : Outcome :=
  ordinary .dsp (.packrlPh rd rs rt) s
    (s.setWord rd (packPH (halfA (s.word rs)) (halfB (s.word rt))))

/-- PRECEQ.W.PHL rd, rt (R167). -/
def execPreceqWPhl (rd rt : Reg) (s : State) : Outcome :=
  ordinary .dsp (.preceqWPhl rd rt) s
    (s.setWord rd (halfB (s.word rt) ++ 0#16))

/-- PRECEQ.W.PHR rd, rt (R168). -/
def execPreceqWPhr (rd rt : Reg) (s : State) : Outcome :=
  ordinary .dsp (.preceqWPhr rd rt) s
    (s.setWord rd (halfA (s.word rt) ++ 0#16))

/-- PRECEQU.PH.QBL rd, rt (R169). -/
def execPrecequPhQbl (rd rt : Reg) (s : State) : Outcome :=
  ordinary .dsp (.precequPhQbl rd rt) s
    (s.setWord rd (packPH (expandQ15 (byteD (s.word rt))) (expandQ15 (byteC (s.word rt)))))

/-- PRECEQU.PH.QBR rd, rt (R170). C10. -/
def execPrecequPhQbr (rd rt : Reg) (s : State) : Outcome :=
  ordinary .dsp (.precequPhQbr rd rt) s
    (s.setWord rd (packPH (expandQ15 (byteB (s.word rt))) (expandQ15 (byteA (s.word rt)))))

/-- PRECEQU.PH.QBLA rd, rt (R171). -/
def execPrecequPhQbla (rd rt : Reg) (s : State) : Outcome :=
  ordinary .dsp (.precequPhQbla rd rt) s
    (s.setWord rd (packPH (expandQ15 (byteD (s.word rt))) (expandQ15 (byteB (s.word rt)))))

/-- PRECEQU.PH.QBRA rd, rt (R172). -/
def execPrecequPhQbra (rd rt : Reg) (s : State) : Outcome :=
  ordinary .dsp (.precequPhQbra rd rt) s
    (s.setWord rd (packPH (expandQ15 (byteC (s.word rt))) (expandQ15 (byteA (s.word rt)))))

/-- PRECEU.PH.QBL rd, rt (R173). -/
def execPreceuPhQbl (rd rt : Reg) (s : State) : Outcome :=
  ordinary .dsp (.preceuPhQbl rd rt) s
    (s.setWord rd (packPH (expandU16 (byteD (s.word rt))) (expandU16 (byteC (s.word rt)))))

/-- PRECEU.PH.QBR rd, rt (R174). -/
def execPreceuPhQbr (rd rt : Reg) (s : State) : Outcome :=
  ordinary .dsp (.preceuPhQbr rd rt) s
    (s.setWord rd (packPH (expandU16 (byteB (s.word rt))) (expandU16 (byteA (s.word rt)))))

/-- PRECEU.PH.QBLA rd, rt (R175). C16. -/
def execPreceuPhQbla (rd rt : Reg) (s : State) : Outcome :=
  ordinary .dsp (.preceuPhQbla rd rt) s
    (s.setWord rd (packPH (expandU16 (byteD (s.word rt))) (expandU16 (byteB (s.word rt)))))

/-- PRECEU.PH.QBRA rd, rt (R176). -/
def execPreceuPhQbra (rd rt : Reg) (s : State) : Outcome :=
  ordinary .dsp (.preceuPhQbra rd rt) s
    (s.setWord rd (packPH (expandU16 (byteC (s.word rt))) (expandU16 (byteA (s.word rt)))))

/-- PRECR.QB.PH rd, rs, rt (R177). -/
def execPrecrQbPh (rd rs rt : Reg) (s : State) : Outcome :=
  ordinary .dspR2 (.precrQbPh rd rs rt) s
    (s.setWord rd (packQB (byteC (s.word rs)) (byteA (s.word rs)) (byteC (s.word rt)) (byteA (s.word rt))))

/-- PRECRQ.QB.PH rd, rs, rt (R178). -/
def execPrecrqQbPh (rd rs rt : Reg) (s : State) : Outcome :=
  ordinary .dsp (.precrqQbPh rd rs rt) s
    (s.setWord rd (packQB (byteD (s.word rs)) (byteB (s.word rs)) (byteD (s.word rt)) (byteB (s.word rt))))

/-- PRECRQ.PH.W rd, rs, rt (R179). C9. -/
def execPrecrqPhW (rd rs rt : Reg) (s : State) : Outcome :=
  ordinary .dsp (.precrqPhW rd rs rt) s
    (s.setWord rd (packPH (halfB (s.word rs)) (halfB (s.word rt))))

/-- PRECRQ_RS.PH.W rd, rs, rt (R180). -/
def execPrecrqRsPhW (rd rs rt : Reg) (s : State) : Outcome :=
  ordinary .dsp (.precrqRsPhW rd rs rt) s
    (s.setWordFlag rd 22 (joinPH (roundToHalf (s.word rs)) (roundToHalf (s.word rt))))

/-- PRECRQU_S.QB.PH rd, rs, rt (R181). -/
def execPrecrquSQbPh (rd rs rt : Reg) (s : State) : Outcome :=
  ordinary .dsp (.precrquSQbPh rd rs rt) s
    (s.setWordFlag rd 22 (joinQB (reduceToByte (halfB (s.word rs))) (reduceToByte (halfA (s.word rs)))
      (reduceToByte (halfB (s.word rt))) (reduceToByte (halfA (s.word rt)))))

/-- PRECR_SRA.PH.W rt, rs, sa (R182). C11. -/
def execPrecrSraPhW (rt rs : Reg) (sa : Nat) (s : State) : Outcome :=
  ordinary .dspR2 (.precrSraPhW rt rs sa) s
    (s.setWord rt (packPH (shiftToHalf (s.word rt) sa) (shiftToHalf (s.word rs) sa)))

/-- PRECR_SRA_R.PH.W rt, rs, sa (R183). C11. -/
def execPrecrSraRPhW (rt rs : Reg) (sa : Nat) (s : State) : Outcome :=
  ordinary .dspR2 (.precrSraRPhW rt rs sa) s
    (s.setWord rt (packPH (roundShiftToHalf (s.word rt) sa) (roundShiftToHalf (s.word rs) sa)))

/-- REPL.PH rd, immediate (R184). C12. -/
def execReplPh (rd : Reg) (imm : BitVec 10) (s : State) : Outcome :=
  ordinary .dsp (.replPh rd imm) s
    (s.setWord rd (packPH (imm.signExtend 16) (imm.signExtend 16)))

/-- REPL.QB rd, immediate (R185). -/
def execReplQb (rd : Reg) (imm : BitVec 8) (s : State) : Outcome :=
  ordinary .dsp (.replQb rd imm) s
    (s.setWord rd (packQB imm imm imm imm))

/-- REPLV.PH rd, rt (R186). C12. -/
def execReplvPh (rd rt : Reg) (s : State) : Outcome :=
  ordinary .dsp (.replvPh rd rt) s
    (s.setWord rd (packPH (halfA (s.word rt)) (halfA (s.word rt))))

/-- REPLV.QB rd, rt (R187). -/
def execReplvQb (rd rt : Reg) (s : State) : Outcome :=
  ordinary .dsp (.replvQb rd rt) s
    (s.setWord rd (packQB (byteA (s.word rt)) (byteA (s.word rt)) (byteA (s.word rt)) (byteA (s.word rt))))

end Sys2Proof.Machine
end

