-- ==== Sys2Proof/Machine/Branch.lean ====
section
/-!
DEFINITION. Meanings of the two branches on the `pos` field (`42_branch_compare_pick.md` R202 to R205).
-/

namespace Sys2Proof.Machine

/-- The effect of BPOSGE32 (R202, `10_state.md` R24): the next instruction is in the delay slot, taken or not; where
the condition holds, `target` follows it. -/
def State.branchDelayed (s : State) (target : Addr) : State :=
  { s with pc := s.pc + 4#64, slot := .delay, delayed := if s.posAtLeast32 then some target else none }

/-- The effect of BPOSGE32C (R204, R205): `target` is next where the condition holds; else the next instruction, in
the forbidden slot. -/
def State.branchCompact (s : State) (target : Addr) : State :=
  { s with
    pc := if s.posAtLeast32 then target else s.pc + 4#64
    slot := if s.posAtLeast32 then .none else .forbidden
    delayed := none }

/-- BPOSGE32 offset (R202). C1. -/
def execBposge32 (offset : BitVec 16) (s : State) : Outcome :=
  branching .dsp (.bposge32 offset) s
    (s.branchDelayed (s.branchTarget offset))

/-- BPOSGE32C offset (R204). C1, C17. -/
def execBposge32c (offset : BitVec 16) (s : State) : Outcome :=
  branching .dspR3 (.bposge32c offset) s
    (s.branchCompact (s.branchTarget offset))

end Sys2Proof.Machine
end

