-- ==== Sys2Proof/Machine/Compare.lean ====
section
/-!
DEFINITION. Meanings of the twelve compares and the two picks (`42_branch_compare_pick.md` R206 to R219).
-/

namespace Sys2Proof.Machine

/-- `DSPControl[25:24]` from a halfword compare; bits 31..26 become free values (R206, U3). -/
def State.setCondPH (s : State) (c : BitVec 2) : State := (s.setCcond (s.any 6 0 ++ c)).drawn 1

/-- `DSPControl[27:24]` from a byte compare; bits 31..28 become free values (R209, U3). -/
def State.setCondQB (s : State) (c : BitVec 4) : State := (s.setCcond (s.any 4 0 ++ c)).drawn 1

/-- CMP.EQ.PH rs, rt (R206). -/
def execCmpEqPh (rs rt : Reg) (s : State) : Outcome :=
  ordinary .dsp (.cmpEqPh rs rt) s
    (s.setCondPH (comparePH (· == ·) (s.word rs) (s.word rt)))

/-- CMP.LT.PH rs, rt (R207). -/
def execCmpLtPh (rs rt : Reg) (s : State) : Outcome :=
  ordinary .dsp (.cmpLtPh rs rt) s
    (s.setCondPH (comparePH BitVec.slt (s.word rs) (s.word rt)))

/-- CMP.LE.PH rs, rt (R208). -/
def execCmpLePh (rs rt : Reg) (s : State) : Outcome :=
  ordinary .dsp (.cmpLePh rs rt) s
    (s.setCondPH (comparePH BitVec.sle (s.word rs) (s.word rt)))

/-- CMPU.EQ.QB rs, rt (R209). -/
def execCmpuEqQb (rs rt : Reg) (s : State) : Outcome :=
  ordinary .dsp (.cmpuEqQb rs rt) s
    (s.setCondQB (compareQB (· == ·) (s.word rs) (s.word rt)))

/-- CMPU.LT.QB rs, rt (R210). -/
def execCmpuLtQb (rs rt : Reg) (s : State) : Outcome :=
  ordinary .dsp (.cmpuLtQb rs rt) s
    (s.setCondQB (compareQB BitVec.ult (s.word rs) (s.word rt)))

/-- CMPU.LE.QB rs, rt (R211). -/
def execCmpuLeQb (rs rt : Reg) (s : State) : Outcome :=
  ordinary .dsp (.cmpuLeQb rs rt) s
    (s.setCondQB (compareQB BitVec.ule (s.word rs) (s.word rt)))

/-- CMPGU.EQ.QB rd, rs, rt (R212). `DSPControl` is not touched. -/
def execCmpguEqQb (rd rs rt : Reg) (s : State) : Outcome :=
  ordinary .dsp (.cmpguEqQb rd rs rt) s
    (s.setGpr rd ((compareQB (· == ·) (s.word rs) (s.word rt)).setWidth 64))

/-- CMPGU.LT.QB rd, rs, rt (R213). `DSPControl` is not touched. -/
def execCmpguLtQb (rd rs rt : Reg) (s : State) : Outcome :=
  ordinary .dsp (.cmpguLtQb rd rs rt) s
    (s.setGpr rd ((compareQB BitVec.ult (s.word rs) (s.word rt)).setWidth 64))

/-- CMPGU.LE.QB rd, rs, rt (R214). `DSPControl` is not touched. -/
def execCmpguLeQb (rd rs rt : Reg) (s : State) : Outcome :=
  ordinary .dsp (.cmpguLeQb rd rs rt) s
    (s.setGpr rd ((compareQB BitVec.ule (s.word rs) (s.word rt)).setWidth 64))

/-- CMPGDU.EQ.QB rd, rs, rt (R215). -/
def execCmpgduEqQb (rd rs rt : Reg) (s : State) : Outcome :=
  ordinary .dspR2 (.cmpgduEqQb rd rs rt) s
    ((s.setCondQB (compareQB (· == ·) (s.word rs) (s.word rt))).setGpr rd
      ((compareQB (· == ·) (s.word rs) (s.word rt)).setWidth 64))

/-- CMPGDU.LT.QB rd, rs, rt (R216). -/
def execCmpgduLtQb (rd rs rt : Reg) (s : State) : Outcome :=
  ordinary .dspR2 (.cmpgduLtQb rd rs rt) s
    ((s.setCondQB (compareQB BitVec.ult (s.word rs) (s.word rt))).setGpr rd
      ((compareQB BitVec.ult (s.word rs) (s.word rt)).setWidth 64))

/-- CMPGDU.LE.QB rd, rs, rt (R217). -/
def execCmpgduLeQb (rd rs rt : Reg) (s : State) : Outcome :=
  ordinary .dspR2 (.cmpgduLeQb rd rs rt) s
    ((s.setCondQB (compareQB BitVec.ule (s.word rs) (s.word rt))).setGpr rd
      ((compareQB BitVec.ule (s.word rs) (s.word rt)).setWidth 64))

/-- PICK.PH rd, rs, rt (R218). -/
def execPickPh (rd rs rt : Reg) (s : State) : Outcome :=
  ordinary .dsp (.pickPh rd rs rt) s
    (s.setWord rd (pickPH s.ccond (s.word rs) (s.word rt)))

/-- PICK.QB rd, rs, rt (R219). -/
def execPickQb (rd rs rt : Reg) (s : State) : Outcome :=
  ordinary .dsp (.pickQb rd rs rt) s
    (s.setWord rd (pickQB s.ccond (s.word rs) (s.word rt)))

end Sys2Proof.Machine
end

