-- ==== Sys2Proof/Machine/DotProduct.lean ====
section
/-!
DEFINITION. Meanings of the 22 dot products and multiply-accumulates (`43_dot_product_mac.md`).
-/

namespace Sys2Proof.Machine

/-- DPA.W.PH ac, rs, rt (R236). -/
def execDpaWPh (ac : Acc) (rs rt : Reg) (s : State) : Outcome :=
  ordinary .dspR2 (.dpaWPh ac rs rt) s
    (s.setAcc ac (s.acc ac + ((halfProducts (s.word rs) (s.word rt)).1 + (halfProducts (s.word rs) (s.word rt)).2)))

/-- DPS.W.PH ac, rs, rt (R237). -/
def execDpsWPh (ac : Acc) (rs rt : Reg) (s : State) : Outcome :=
  ordinary .dspR2 (.dpsWPh ac rs rt) s
    (s.setAcc ac (s.acc ac - ((halfProducts (s.word rs) (s.word rt)).1 + (halfProducts (s.word rs) (s.word rt)).2)))

/-- DPAX.W.PH ac, rs, rt (R238). -/
def execDpaxWPh (ac : Acc) (rs rt : Reg) (s : State) : Outcome :=
  ordinary .dspR2 (.dpaxWPh ac rs rt) s
    (s.setAcc ac (s.acc ac + ((crossProducts (s.word rs) (s.word rt)).1 + (crossProducts (s.word rs) (s.word rt)).2)))

/-- DPSX.W.PH ac, rs, rt (R239). -/
def execDpsxWPh (ac : Acc) (rs rt : Reg) (s : State) : Outcome :=
  ordinary .dspR2 (.dpsxWPh ac rs rt) s
    (s.setAcc ac (s.acc ac - ((crossProducts (s.word rs) (s.word rt)).1 + (crossProducts (s.word rs) (s.word rt)).2)))

/-- MULSA.W.PH ac, rs, rt (R252). Left product minus right product. -/
def execMulsaWPh (ac : Acc) (rs rt : Reg) (s : State) : Outcome :=
  ordinary .dspR2 (.mulsaWPh ac rs rt) s
    (s.setAcc ac (s.acc ac + ((halfProducts (s.word rs) (s.word rt)).1 - (halfProducts (s.word rs) (s.word rt)).2)))

/-- DPAU.H.QBL ac, rs, rt (R240). -/
def execDpauHQbl (ac : Acc) (rs rt : Reg) (s : State) : Outcome :=
  ordinary .dsp (.dpauHQbl ac rs rt) s
    (s.setAcc ac (s.acc ac + leftByteDot (s.word rs) (s.word rt)))

/-- DPAU.H.QBR ac, rs, rt (R241). C22. -/
def execDpauHQbr (ac : Acc) (rs rt : Reg) (s : State) : Outcome :=
  ordinary .dsp (.dpauHQbr ac rs rt) s
    (s.setAcc ac (s.acc ac + rightByteDot (s.word rs) (s.word rt)))

/-- DPSU.H.QBL ac, rs, rt (R242). -/
def execDpsuHQbl (ac : Acc) (rs rt : Reg) (s : State) : Outcome :=
  ordinary .dsp (.dpsuHQbl ac rs rt) s
    (s.setAcc ac (s.acc ac - leftByteDot (s.word rs) (s.word rt)))

/-- DPSU.H.QBR ac, rs, rt (R243). -/
def execDpsuHQbr (ac : Acc) (rs rt : Reg) (s : State) : Outcome :=
  ordinary .dsp (.dpsuHQbr ac rs rt) s
    (s.setAcc ac (s.acc ac - rightByteDot (s.word rs) (s.word rt)))

/-- DPAQ_S.W.PH ac, rs, rt (R244). -/
def execDpaqSWPh (ac : Acc) (rs rt : Reg) (s : State) : Outcome :=
  ordinary .dsp (.dpaqSWPh ac rs rt) s
    (s.setAccFlag ac (accumulate .add (s.acc ac) (fracSum (halfFracs (s.word rs) (s.word rt)))))

/-- DPSQ_S.W.PH ac, rs, rt (R245). -/
def execDpsqSWPh (ac : Acc) (rs rt : Reg) (s : State) : Outcome :=
  ordinary .dsp (.dpsqSWPh ac rs rt) s
    (s.setAccFlag ac (accumulate .sub (s.acc ac) (fracSum (halfFracs (s.word rs) (s.word rt)))))

/-- DPAQX_S.W.PH ac, rs, rt (R246). -/
def execDpaqxSWPh (ac : Acc) (rs rt : Reg) (s : State) : Outcome :=
  ordinary .dspR2 (.dpaqxSWPh ac rs rt) s
    (s.setAccFlag ac (accumulate .add (s.acc ac) (fracSum (crossFracs (s.word rs) (s.word rt)))))

/-- DPSQX_S.W.PH ac, rs, rt (R247). -/
def execDpsqxSWPh (ac : Acc) (rs rt : Reg) (s : State) : Outcome :=
  ordinary .dspR2 (.dpsqxSWPh ac rs rt) s
    (s.setAccFlag ac (accumulate .sub (s.acc ac) (fracSum (crossFracs (s.word rs) (s.word rt)))))

/-- DPAQX_SA.W.PH ac, rs, rt (R248). C21. -/
def execDpaqxSaWPh (ac : Acc) (rs rt : Reg) (s : State) : Outcome :=
  ordinary .dspR2 (.dpaqxSaWPh ac rs rt) s
    (s.setAccFlag ac (accumulateSat31 .add (s.acc ac) (fracSum (crossFracs (s.word rs) (s.word rt)))))

/-- DPSQX_SA.W.PH ac, rs, rt (R249). C21. -/
def execDpsqxSaWPh (ac : Acc) (rs rt : Reg) (s : State) : Outcome :=
  ordinary .dspR2 (.dpsqxSaWPh ac rs rt) s
    (s.setAccFlag ac (accumulateSat31 .sub (s.acc ac) (fracSum (crossFracs (s.word rs) (s.word rt)))))

/-- MULSAQ_S.W.PH ac, rs, rt (R253). -/
def execMulsaqSWPh (ac : Acc) (rs rt : Reg) (s : State) : Outcome :=
  ordinary .dsp (.mulsaqSWPh ac rs rt) s
    (s.setAccFlag ac (accumulate .add (s.acc ac) (fracDiff (halfFracs (s.word rs) (s.word rt)))))

/-- DPAQ_SA.L.W ac, rs, rt (R250). -/
def execDpaqSaLW (ac : Acc) (rs rt : Reg) (s : State) : Outcome :=
  ordinary .dsp (.dpaqSaLW ac rs rt) s
    (s.setAccFlag ac (accumulateSat63 .add (s.acc ac) (mulFrac (s.word rs) (s.word rt))))

/-- DPSQ_SA.L.W ac, rs, rt (R251). -/
def execDpsqSaLW (ac : Acc) (rs rt : Reg) (s : State) : Outcome :=
  ordinary .dsp (.dpsqSaLW ac rs rt) s
    (s.setAccFlag ac (accumulateSat63 .sub (s.acc ac) (mulFrac (s.word rs) (s.word rt))))

/-- MAQ_S.W.PHL ac, rs, rt (R258). -/
def execMaqSWPhl (ac : Acc) (rs rt : Reg) (s : State) : Outcome :=
  ordinary .dsp (.maqSWPhl ac rs rt) s
    (s.setAccFlag ac (accumulate .add (s.acc ac) (wordFlagged (mulFrac (halfB (s.word rs)) (halfB (s.word rt))))))

/-- MAQ_S.W.PHR ac, rs, rt (R259). -/
def execMaqSWPhr (ac : Acc) (rs rt : Reg) (s : State) : Outcome :=
  ordinary .dsp (.maqSWPhr ac rs rt) s
    (s.setAccFlag ac (accumulate .add (s.acc ac) (wordFlagged (mulFrac (halfA (s.word rs)) (halfA (s.word rt))))))

/-- MAQ_SA.W.PHL ac, rs, rt (R260). C19. -/
def execMaqSaWPhl (ac : Acc) (rs rt : Reg) (s : State) : Outcome :=
  ordinary .dsp (.maqSaWPhl ac rs rt) s
    (s.setAccFlag ac (wordFlagged (accumulateQ31 (s.hi ac) (s.lo ac)
      (mulFrac (halfB (s.word rs)) (halfB (s.word rt))))))

/-- MAQ_SA.W.PHR ac, rs, rt (R261). C19. -/
def execMaqSaWPhr (ac : Acc) (rs rt : Reg) (s : State) : Outcome :=
  ordinary .dsp (.maqSaWPhr ac rs rt) s
    (s.setAccFlag ac (wordFlagged (accumulateQ31 (s.hi ac) (s.lo ac)
      (mulFrac (halfA (s.word rs)) (halfA (s.word rt))))))

end Sys2Proof.Machine
end

