-- ==== Sys2Proof/Machine/Load.lean ====
section
/-!
DEFINITION. Meanings of the four indexed loads (`45_loads.md`).
-/

namespace Sys2Proof.Machine

/-- LBUX rd, index(base) (R341). -/
def execLbux (rd index base : Reg) (s : State) : Outcome :=
  loading .dsp (.lbux rd index base) s (s.wordAddress index base) 1
    (s.setGpr rd ((s.readByte (s.wordAddress index base)).setWidth 64))

/-- LHX rd, index(base) (R342). -/
def execLhx (rd index base : Reg) (s : State) : Outcome :=
  loading .dsp (.lhx rd index base) s (s.wordAddress index base) 2
    (s.setGpr rd ((s.read16 (s.wordAddress index base)).signExtend 64))

/-- LWX rd, index(base) (R343). -/
def execLwx (rd index base : Reg) (s : State) : Outcome :=
  loading .dsp (.lwx rd index base) s (s.wordAddress index base) 4
    (s.setGpr rd ((s.read32 (s.wordAddress index base)).signExtend 64))

/-- LDX rd, index(base) (R344). -/
def execLdx (rd index base : Reg) (s : State) : Outcome :=
  loading .dsp (.ldx rd index base) s (s.dwordAddress index base) 8
    (s.setGpr rd (s.read64 (s.dwordAddress index base)))

end Sys2Proof.Machine
end

