-- ==== Sys2Proof/Machine/MultiplyGpr.lean ====
section
/-!
DEFINITION. Meanings of the ten multiplies that write a general register and leave `ac0` a free value (`46_multiply_gpr.md`
R350 d, U8).
-/

namespace Sys2Proof.Machine

/-- MULEQ_S.W.PHL rd, rs, rt (R352). -/
def execMuleqSWPhl (rd rs rt : Reg) (s : State) : Outcome :=
  ordinary .dsp (.muleqSWPhl rd rs rt) s
    ((s.setWordFlag rd 21 (mulFrac (halfB (s.word rs)) (halfB (s.word rt)))).setHiLoAny 0)

/-- MULEQ_S.W.PHR rd, rs, rt (R353). -/
def execMuleqSWPhr (rd rs rt : Reg) (s : State) : Outcome :=
  ordinary .dsp (.muleqSWPhr rd rs rt) s
    ((s.setWordFlag rd 21 (mulFrac (halfA (s.word rs)) (halfA (s.word rt)))).setHiLoAny 0)

/-- MULEU_S.PH.QBL rd, rs, rt (R355). -/
def execMuleuSPhQbl (rd rs rt : Reg) (s : State) : Outcome :=
  ordinary .dsp (.muleuSPhQbl rd rs rt) s
    ((s.setWordFlag rd 21 (joinPH (mulByteHalf (byteD (s.word rs)) (halfB (s.word rt)))
      (mulByteHalf (byteC (s.word rs)) (halfA (s.word rt))))).setHiLoAny 0)

/-- MULEU_S.PH.QBR rd, rs, rt (R356). -/
def execMuleuSPhQbr (rd rs rt : Reg) (s : State) : Outcome :=
  ordinary .dsp (.muleuSPhQbr rd rs rt) s
    ((s.setWordFlag rd 21 (joinPH (mulByteHalf (byteB (s.word rs)) (halfB (s.word rt)))
      (mulByteHalf (byteA (s.word rs)) (halfA (s.word rt))))).setHiLoAny 0)

/-- MULQ_RS.PH rd, rs, rt (R358). -/
def execMulqRsPh (rd rs rt : Reg) (s : State) : Outcome :=
  ordinary .dsp (.mulqRsPh rd rs rt) s
    ((s.setWordFlag rd 21 (zipPHFlag mulRoundQ15 (s.word rs) (s.word rt))).setHiLoAny 0)

/-- MULQ_S.PH rd, rs, rt (R360). -/
def execMulqSPh (rd rs rt : Reg) (s : State) : Outcome :=
  ordinary .dspR2 (.mulqSPh rd rs rt) s
    ((s.setWordFlag rd 21 (zipPHFlag mulTruncQ15 (s.word rs) (s.word rt))).setHiLoAny 0)

/-- MUL.PH rd, rs, rt (R364). C31, C32. -/
def execMulPh (rd rs rt : Reg) (s : State) : Outcome :=
  ordinary .dspR2 (.mulPh rd rs rt) s
    ((s.setWordFlag rd 21 (zipPHFlag mulWrap16 (s.word rs) (s.word rt))).setHiLoAny 0)

/-- MUL_S.PH rd, rs, rt (R365). C32, C33. -/
def execMulSPh (rd rs rt : Reg) (s : State) : Outcome :=
  ordinary .dspR2 (.mulSPh rd rs rt) s
    ((s.setWordFlag rd 21 (zipPHFlag mulSat16 (s.word rs) (s.word rt))).setHiLoAny 0)

/-- MULQ_S.W rd, rs, rt (R361). -/
def execMulqSW (rd rs rt : Reg) (s : State) : Outcome :=
  ordinary .dspR2 (.mulqSW rd rs rt) s
    ((s.setWordFlag rd 21 (mulTruncQ31 (s.word rs) (s.word rt))).setHiLoAny 0)

/-- MULQ_RS.W rd, rs, rt (R362). -/
def execMulqRsW (rd rs rt : Reg) (s : State) : Outcome :=
  ordinary .dspR2 (.mulqRsW rd rs rt) s
    ((s.setWordFlag rd 21 (mulRoundQ31 (s.word rs) (s.word rt))).setHiLoAny 0)

end Sys2Proof.Machine
end

