-- ==== Sys2Proof/Machine/Shift.lean ====
section
/-!
DEFINITION. Meanings of the 22 vector shifts (`47_shifts.md`).
-/

namespace Sys2Proof.Machine

/-- SHLL.QB rd, rt, sa (R372). -/
def execShllQb (rd rt : Reg) (sa : Nat) (s : State) : Outcome :=
  ordinary .dsp (.shllQb rd rt sa) s
    (s.setWordFlag rd 22 (mapQBFlag (shiftLeftU · sa) (s.word rt)))

/-- SHLLV.QB rd, rt, rs (R373). -/
def execShllvQb (rd rt rs : Reg) (s : State) : Outcome :=
  ordinary .dsp (.shllvQb rd rt rs) s
    (s.setWordFlag rd 22 (mapQBFlag (shiftLeftU · ((s.word rs).extractLsb' 0 3).toNat) (s.word rt)))

/-- SHLL.PH rd, rt, sa (R376). -/
def execShllPh (rd rt : Reg) (sa : Nat) (s : State) : Outcome :=
  ordinary .dsp (.shllPh rd rt sa) s
    (s.setWordFlag rd 22 (mapPHFlag (shiftLeftS · sa) (s.word rt)))

/-- SHLL_S.PH rd, rt, sa (R377). -/
def execShllSPh (rd rt : Reg) (sa : Nat) (s : State) : Outcome :=
  ordinary .dsp (.shllSPh rd rt sa) s
    (s.setWordFlag rd 22 (mapPHFlag (satShiftLeft · sa) (s.word rt)))

/-- SHLLV.PH rd, rt, rs (R378). -/
def execShllvPh (rd rt rs : Reg) (s : State) : Outcome :=
  ordinary .dsp (.shllvPh rd rt rs) s
    (s.setWordFlag rd 22 (mapPHFlag (shiftLeftS · ((s.word rs).extractLsb' 0 4).toNat) (s.word rt)))

/-- SHLLV_S.PH rd, rt, rs (R379). -/
def execShllvSPh (rd rt rs : Reg) (s : State) : Outcome :=
  ordinary .dsp (.shllvSPh rd rt rs) s
    (s.setWordFlag rd 22 (mapPHFlag (satShiftLeft · ((s.word rs).extractLsb' 0 4).toNat) (s.word rt)))

/-- SHLL_S.W rd, rt, sa (R381). C35. -/
def execShllSW (rd rt : Reg) (sa : Nat) (s : State) : Outcome :=
  ordinary .dsp (.shllSW rd rt sa) s
    (s.setWordFlag rd 22 (satShiftLeft (s.word rt) sa))

/-- SHLLV_S.W rd, rt, rs (R382). -/
def execShllvSW (rd rt rs : Reg) (s : State) : Outcome :=
  ordinary .dsp (.shllvSW rd rt rs) s
    (s.setWordFlag rd 22 (satShiftLeft (s.word rt) ((s.word rs).extractLsb' 0 5).toNat))

/-- SHRL.QB rd, rt, sa (R384). C36. -/
def execShrlQb (rd rt : Reg) (sa : Nat) (s : State) : Outcome :=
  ordinary .dsp (.shrlQb rd rt sa) s
    (s.setWord rd (mapQB (· >>> sa) (s.word rt)))

/-- SHRLV.QB rd, rt, rs (R385). -/
def execShrlvQb (rd rt rs : Reg) (s : State) : Outcome :=
  ordinary .dsp (.shrlvQb rd rt rs) s
    (s.setWord rd (mapQB (· >>> ((s.word rs).extractLsb' 0 3).toNat) (s.word rt)))

/-- SHRL.PH rd, rt, sa (R386). -/
def execShrlPh (rd rt : Reg) (sa : Nat) (s : State) : Outcome :=
  ordinary .dspR2 (.shrlPh rd rt sa) s
    (s.setWord rd (mapPH (· >>> sa) (s.word rt)))

/-- SHRLV.PH rd, rt, rs (R387). -/
def execShrlvPh (rd rt rs : Reg) (s : State) : Outcome :=
  ordinary .dspR2 (.shrlvPh rd rt rs) s
    (s.setWord rd (mapPH (· >>> ((s.word rs).extractLsb' 0 4).toNat) (s.word rt)))

/-- SHRA.QB rd, rt, sa (R388). -/
def execShraQb (rd rt : Reg) (sa : Nat) (s : State) : Outcome :=
  ordinary .dspR2 (.shraQb rd rt sa) s
    (s.setWord rd (mapQB (·.sshiftRight sa) (s.word rt)))

/-- SHRA_R.QB rd, rt, sa (R389). C37. -/
def execShraRQb (rd rt : Reg) (sa : Nat) (s : State) : Outcome :=
  ordinary .dspR2 (.shraRQb rd rt sa) s
    (s.setWord rd (mapQB (roundShift · sa) (s.word rt)))

/-- SHRAV.QB rd, rt, rs (R390). -/
def execShravQb (rd rt rs : Reg) (s : State) : Outcome :=
  ordinary .dspR2 (.shravQb rd rt rs) s
    (s.setWord rd (mapQB (·.sshiftRight ((s.word rs).extractLsb' 0 3).toNat) (s.word rt)))

/-- SHRAV_R.QB rd, rt, rs (R391). -/
def execShravRQb (rd rt rs : Reg) (s : State) : Outcome :=
  ordinary .dspR2 (.shravRQb rd rt rs) s
    (s.setWord rd (mapQB (roundShift · ((s.word rs).extractLsb' 0 3).toNat) (s.word rt)))

/-- SHRA.PH rd, rt, sa (R394). -/
def execShraPh (rd rt : Reg) (sa : Nat) (s : State) : Outcome :=
  ordinary .dsp (.shraPh rd rt sa) s
    (s.setWord rd (mapPH (·.sshiftRight sa) (s.word rt)))

/-- SHRA_R.PH rd, rt, sa (R395). -/
def execShraRPh (rd rt : Reg) (sa : Nat) (s : State) : Outcome :=
  ordinary .dsp (.shraRPh rd rt sa) s
    (s.setWord rd (mapPH (roundShift · sa) (s.word rt)))

/-- SHRAV.PH rd, rt, rs (R396). -/
def execShravPh (rd rt rs : Reg) (s : State) : Outcome :=
  ordinary .dsp (.shravPh rd rt rs) s
    (s.setWord rd (mapPH (·.sshiftRight ((s.word rs).extractLsb' 0 4).toNat) (s.word rt)))

/-- SHRAV_R.PH rd, rt, rs (R397). -/
def execShravRPh (rd rt rs : Reg) (s : State) : Outcome :=
  ordinary .dsp (.shravRPh rd rt rs) s
    (s.setWord rd (mapPH (roundShift · ((s.word rs).extractLsb' 0 4).toNat) (s.word rt)))

/-- SHRA_R.W rd, rt, sa (R399). C38. -/
def execShraRW (rd rt : Reg) (sa : Nat) (s : State) : Outcome :=
  ordinary .dsp (.shraRW rd rt sa) s
    (s.setWord rd (roundShift (s.word rt) sa))

/-- SHRAV_R.W rd, rt, rs (R400). -/
def execShravRW (rd rt rs : Reg) (s : State) : Outcome :=
  ordinary .dsp (.shravRW rd rt rs) s
    (s.setWord rd (roundShift (s.word rt) ((s.word rs).extractLsb' 0 5).toNat))

end Sys2Proof.Machine
end

