-- ==== Sys2Proof/Machine/Dispatch.lean ====
section
/-!
DEFINITION. The dispatch: one arm per constructor of `Instr`, each a direct call of the instruction's meaning.
-/

namespace Sys2Proof.Machine

def exec (i : Instr) (s : State) : Host.Outcome State Fault Refusal :=
  match i with
  | .adduQb rd rs rt => Sys2Proof.Machine.execAdduQb rd rs rt s
  | .subuQb rd rs rt => Sys2Proof.Machine.execSubuQb rd rs rt s
  | .adduSQb rd rs rt => Sys2Proof.Machine.execAdduSQb rd rs rt s
  | .subuSQb rd rs rt => Sys2Proof.Machine.execSubuSQb rd rs rt s
  | .muleuSPhQbl rd rs rt => Sys2Proof.Machine.execMuleuSPhQbl rd rs rt s
  | .muleuSPhQbr rd rs rt => Sys2Proof.Machine.execMuleuSPhQbr rd rs rt s
  | .adduPh rd rs rt => Sys2Proof.Machine.execAdduPh rd rs rt s
  | .subuPh rd rs rt => Sys2Proof.Machine.execSubuPh rd rs rt s
  | .addqPh rd rs rt => Sys2Proof.Machine.execAddqPh rd rs rt s
  | .subqPh rd rs rt => Sys2Proof.Machine.execSubqPh rd rs rt s
  | .adduSPh rd rs rt => Sys2Proof.Machine.execAdduSPh rd rs rt s
  | .subuSPh rd rs rt => Sys2Proof.Machine.execSubuSPh rd rs rt s
  | .addqSPh rd rs rt => Sys2Proof.Machine.execAddqSPh rd rs rt s
  | .subqSPh rd rs rt => Sys2Proof.Machine.execSubqSPh rd rs rt s
  | .addsc rd rs rt => Sys2Proof.Machine.execAddsc rd rs rt s
  | .addwc rd rs rt => Sys2Proof.Machine.execAddwc rd rs rt s
  | .modsub rd rs rt => Sys2Proof.Machine.execModsub rd rs rt s
  | .addqSW rd rs rt => Sys2Proof.Machine.execAddqSW rd rs rt s
  | .subqSW rd rs rt => Sys2Proof.Machine.execSubqSW rd rs rt s
  | .muleqSWPhl rd rs rt => Sys2Proof.Machine.execMuleqSWPhl rd rs rt s
  | .muleqSWPhr rd rs rt => Sys2Proof.Machine.execMuleqSWPhr rd rs rt s
  | .mulqSPh rd rs rt => Sys2Proof.Machine.execMulqSPh rd rs rt s
  | .mulqRsPh rd rs rt => Sys2Proof.Machine.execMulqRsPh rd rs rt s
  | .radduWQb rd rs => Sys2Proof.Machine.execRadduWQb rd rs s
  | .cmpuEqQb rs rt => Sys2Proof.Machine.execCmpuEqQb rs rt s
  | .cmpuLtQb rs rt => Sys2Proof.Machine.execCmpuLtQb rs rt s
  | .cmpuLeQb rs rt => Sys2Proof.Machine.execCmpuLeQb rs rt s
  | .pickQb rd rs rt => Sys2Proof.Machine.execPickQb rd rs rt s
  | .cmpguEqQb rd rs rt => Sys2Proof.Machine.execCmpguEqQb rd rs rt s
  | .cmpguLtQb rd rs rt => Sys2Proof.Machine.execCmpguLtQb rd rs rt s
  | .cmpguLeQb rd rs rt => Sys2Proof.Machine.execCmpguLeQb rd rs rt s
  | .cmpEqPh rs rt => Sys2Proof.Machine.execCmpEqPh rs rt s
  | .cmpLtPh rs rt => Sys2Proof.Machine.execCmpLtPh rs rt s
  | .cmpLePh rs rt => Sys2Proof.Machine.execCmpLePh rs rt s
  | .pickPh rd rs rt => Sys2Proof.Machine.execPickPh rd rs rt s
  | .precrqQbPh rd rs rt => Sys2Proof.Machine.execPrecrqQbPh rd rs rt s
  | .precrQbPh rd rs rt => Sys2Proof.Machine.execPrecrQbPh rd rs rt s
  | .packrlPh rd rs rt => Sys2Proof.Machine.execPackrlPh rd rs rt s
  | .precrquSQbPh rd rs rt => Sys2Proof.Machine.execPrecrquSQbPh rd rs rt s
  | .precrqPhW rd rs rt => Sys2Proof.Machine.execPrecrqPhW rd rs rt s
  | .precrqRsPhW rd rs rt => Sys2Proof.Machine.execPrecrqRsPhW rd rs rt s
  | .cmpgduEqQb rd rs rt => Sys2Proof.Machine.execCmpgduEqQb rd rs rt s
  | .cmpgduLtQb rd rs rt => Sys2Proof.Machine.execCmpgduLtQb rd rs rt s
  | .cmpgduLeQb rd rs rt => Sys2Proof.Machine.execCmpgduLeQb rd rs rt s
  | .precrSraPhW rt rs sa => Sys2Proof.Machine.execPrecrSraPhW rt rs sa s
  | .precrSraRPhW rt rs sa => Sys2Proof.Machine.execPrecrSraRPhW rt rs sa s
  | .absqSQb rd rt => Sys2Proof.Machine.execAbsqSQb rd rt s
  | .replQb rd imm => Sys2Proof.Machine.execReplQb rd imm s
  | .replvQb rd rt => Sys2Proof.Machine.execReplvQb rd rt s
  | .precequPhQbl rd rt => Sys2Proof.Machine.execPrecequPhQbl rd rt s
  | .precequPhQbr rd rt => Sys2Proof.Machine.execPrecequPhQbr rd rt s
  | .precequPhQbla rd rt => Sys2Proof.Machine.execPrecequPhQbla rd rt s
  | .precequPhQbra rd rt => Sys2Proof.Machine.execPrecequPhQbra rd rt s
  | .absqSPh rd rt => Sys2Proof.Machine.execAbsqSPh rd rt s
  | .replPh rd imm => Sys2Proof.Machine.execReplPh rd imm s
  | .replvPh rd rt => Sys2Proof.Machine.execReplvPh rd rt s
  | .preceqWPhl rd rt => Sys2Proof.Machine.execPreceqWPhl rd rt s
  | .preceqWPhr rd rt => Sys2Proof.Machine.execPreceqWPhr rd rt s
  | .absqSW rd rt => Sys2Proof.Machine.execAbsqSW rd rt s
  | .bitrev rd rt => Sys2Proof.Machine.execBitrev rd rt s
  | .preceuPhQbl rd rt => Sys2Proof.Machine.execPreceuPhQbl rd rt s
  | .preceuPhQbr rd rt => Sys2Proof.Machine.execPreceuPhQbr rd rt s
  | .preceuPhQbla rd rt => Sys2Proof.Machine.execPreceuPhQbla rd rt s
  | .preceuPhQbra rd rt => Sys2Proof.Machine.execPreceuPhQbra rd rt s
  | .shllQb rd rt sa => Sys2Proof.Machine.execShllQb rd rt sa s
  | .shrlQb rd rt sa => Sys2Proof.Machine.execShrlQb rd rt sa s
  | .shllvQb rd rt rs => Sys2Proof.Machine.execShllvQb rd rt rs s
  | .shrlvQb rd rt rs => Sys2Proof.Machine.execShrlvQb rd rt rs s
  | .shraQb rd rt sa => Sys2Proof.Machine.execShraQb rd rt sa s
  | .shraRQb rd rt sa => Sys2Proof.Machine.execShraRQb rd rt sa s
  | .shravQb rd rt rs => Sys2Proof.Machine.execShravQb rd rt rs s
  | .shravRQb rd rt rs => Sys2Proof.Machine.execShravRQb rd rt rs s
  | .shllPh rd rt sa => Sys2Proof.Machine.execShllPh rd rt sa s
  | .shraPh rd rt sa => Sys2Proof.Machine.execShraPh rd rt sa s
  | .shllvPh rd rt rs => Sys2Proof.Machine.execShllvPh rd rt rs s
  | .shravPh rd rt rs => Sys2Proof.Machine.execShravPh rd rt rs s
  | .shllSPh rd rt sa => Sys2Proof.Machine.execShllSPh rd rt sa s
  | .shraRPh rd rt sa => Sys2Proof.Machine.execShraRPh rd rt sa s
  | .shllvSPh rd rt rs => Sys2Proof.Machine.execShllvSPh rd rt rs s
  | .shravRPh rd rt rs => Sys2Proof.Machine.execShravRPh rd rt rs s
  | .shllSW rd rt sa => Sys2Proof.Machine.execShllSW rd rt sa s
  | .shraRW rd rt sa => Sys2Proof.Machine.execShraRW rd rt sa s
  | .shllvSW rd rt rs => Sys2Proof.Machine.execShllvSW rd rt rs s
  | .shravRW rd rt rs => Sys2Proof.Machine.execShravRW rd rt rs s
  | .shrlPh rd rt sa => Sys2Proof.Machine.execShrlPh rd rt sa s
  | .shrlvPh rd rt rs => Sys2Proof.Machine.execShrlvPh rd rt rs s
  | .adduhQb rd rs rt => Sys2Proof.Machine.execAdduhQb rd rs rt s
  | .subuhQb rd rs rt => Sys2Proof.Machine.execSubuhQb rd rs rt s
  | .adduhRQb rd rs rt => Sys2Proof.Machine.execAdduhRQb rd rs rt s
  | .subuhRQb rd rs rt => Sys2Proof.Machine.execSubuhRQb rd rs rt s
  | .addqhPh rd rs rt => Sys2Proof.Machine.execAddqhPh rd rs rt s
  | .subqhPh rd rs rt => Sys2Proof.Machine.execSubqhPh rd rs rt s
  | .addqhRPh rd rs rt => Sys2Proof.Machine.execAddqhRPh rd rs rt s
  | .subqhRPh rd rs rt => Sys2Proof.Machine.execSubqhRPh rd rs rt s
  | .mulPh rd rs rt => Sys2Proof.Machine.execMulPh rd rs rt s
  | .mulSPh rd rs rt => Sys2Proof.Machine.execMulSPh rd rs rt s
  | .addqhW rd rs rt => Sys2Proof.Machine.execAddqhW rd rs rt s
  | .subqhW rd rs rt => Sys2Proof.Machine.execSubqhW rd rs rt s
  | .addqhRW rd rs rt => Sys2Proof.Machine.execAddqhRW rd rs rt s
  | .subqhRW rd rs rt => Sys2Proof.Machine.execSubqhRW rd rs rt s
  | .mulqSW rd rs rt => Sys2Proof.Machine.execMulqSW rd rs rt s
  | .mulqRsW rd rs rt => Sys2Proof.Machine.execMulqRsW rd rs rt s
  | .dpaWPh ac rs rt => Sys2Proof.Machine.execDpaWPh ac rs rt s
  | .dpsWPh ac rs rt => Sys2Proof.Machine.execDpsWPh ac rs rt s
  | .mulsaWPh ac rs rt => Sys2Proof.Machine.execMulsaWPh ac rs rt s
  | .dpauHQbl ac rs rt => Sys2Proof.Machine.execDpauHQbl ac rs rt s
  | .dpaqSWPh ac rs rt => Sys2Proof.Machine.execDpaqSWPh ac rs rt s
  | .dpsqSWPh ac rs rt => Sys2Proof.Machine.execDpsqSWPh ac rs rt s
  | .mulsaqSWPh ac rs rt => Sys2Proof.Machine.execMulsaqSWPh ac rs rt s
  | .dpauHQbr ac rs rt => Sys2Proof.Machine.execDpauHQbr ac rs rt s
  | .dpaxWPh ac rs rt => Sys2Proof.Machine.execDpaxWPh ac rs rt s
  | .dpsxWPh ac rs rt => Sys2Proof.Machine.execDpsxWPh ac rs rt s
  | .dpsuHQbl ac rs rt => Sys2Proof.Machine.execDpsuHQbl ac rs rt s
  | .dpaqSaLW ac rs rt => Sys2Proof.Machine.execDpaqSaLW ac rs rt s
  | .dpsqSaLW ac rs rt => Sys2Proof.Machine.execDpsqSaLW ac rs rt s
  | .dpsuHQbr ac rs rt => Sys2Proof.Machine.execDpsuHQbr ac rs rt s
  | .maqSaWPhl ac rs rt => Sys2Proof.Machine.execMaqSaWPhl ac rs rt s
  | .maqSaWPhr ac rs rt => Sys2Proof.Machine.execMaqSaWPhr ac rs rt s
  | .maqSWPhl ac rs rt => Sys2Proof.Machine.execMaqSWPhl ac rs rt s
  | .maqSWPhr ac rs rt => Sys2Proof.Machine.execMaqSWPhr ac rs rt s
  | .dpaqxSWPh ac rs rt => Sys2Proof.Machine.execDpaqxSWPh ac rs rt s
  | .dpsqxSWPh ac rs rt => Sys2Proof.Machine.execDpsqxSWPh ac rs rt s
  | .dpaqxSaWPh ac rs rt => Sys2Proof.Machine.execDpaqxSaWPh ac rs rt s
  | .dpsqxSaWPh ac rs rt => Sys2Proof.Machine.execDpsqxSaWPh ac rs rt s
  | .append rt rs sa => Sys2Proof.Machine.execAppend rt rs sa s
  | .prepend rt rs sa => Sys2Proof.Machine.execPrepend rt rs sa s
  | .balign rt rs bp => Sys2Proof.Machine.execBalign rt rs bp s
  | .extrW rt ac shift => Sys2Proof.Machine.execExtrW rt ac shift s
  | .extrvW rt ac rs => Sys2Proof.Machine.execExtrvW rt ac rs s
  | .extp rt ac size => Sys2Proof.Machine.execExtp rt ac size s
  | .extpv rt ac rs => Sys2Proof.Machine.execExtpv rt ac rs s
  | .extrRW rt ac shift => Sys2Proof.Machine.execExtrRW rt ac shift s
  | .extrvRW rt ac rs => Sys2Proof.Machine.execExtrvRW rt ac rs s
  | .extrRsW rt ac shift => Sys2Proof.Machine.execExtrRsW rt ac shift s
  | .extrvRsW rt ac rs => Sys2Proof.Machine.execExtrvRsW rt ac rs s
  | .extpdp rt ac size => Sys2Proof.Machine.execExtpdp rt ac size s
  | .extpdpv rt ac rs => Sys2Proof.Machine.execExtpdpv rt ac rs s
  | .extrSH rt ac shift => Sys2Proof.Machine.execExtrSH rt ac shift s
  | .extrvSH rt ac rs => Sys2Proof.Machine.execExtrvSH rt ac rs s
  | .rddsp rd mask => Sys2Proof.Machine.execRddsp rd mask s
  | .wrdsp rs mask => Sys2Proof.Machine.execWrdsp rs mask s
  | .shilo ac shift => Sys2Proof.Machine.execShilo ac shift s
  | .shilov ac rs => Sys2Proof.Machine.execShilov ac rs s
  | .mthlip rs ac => Sys2Proof.Machine.execMthlip rs ac s
  | .lwx rd index base => Sys2Proof.Machine.execLwx rd index base s
  | .lhx rd index base => Sys2Proof.Machine.execLhx rd index base s
  | .lbux rd index base => Sys2Proof.Machine.execLbux rd index base s
  | .ldx rd index base => Sys2Proof.Machine.execLdx rd index base s
  | .insv rt rs => Sys2Proof.Machine.execInsv rt rs s
  | .bposge32 offset => Sys2Proof.Machine.execBposge32 offset s
  | .bposge32c offset => Sys2Proof.Machine.execBposge32c offset s
  | .madd ac rs rt => Sys2Proof.Machine.execMadd ac rs rt s
  | .maddu ac rs rt => Sys2Proof.Machine.execMaddu ac rs rt s
  | .msub ac rs rt => Sys2Proof.Machine.execMsub ac rs rt s
  | .msubu ac rs rt => Sys2Proof.Machine.execMsubu ac rs rt s
  | .mult ac rs rt => Sys2Proof.Machine.execMult ac rs rt s
  | .multu ac rs rt => Sys2Proof.Machine.execMultu ac rs rt s
  | .mfhi rd ac => Sys2Proof.Machine.execMfhi rd ac s
  | .mflo rd ac => Sys2Proof.Machine.execMflo rd ac s
  | .mthi rs ac => Sys2Proof.Machine.execMthi rs ac s
  | .mtlo rs ac => Sys2Proof.Machine.execMtlo rs ac s

end Sys2Proof.Machine
end

