-- ==== Sys2Proof/Machine/Step.lean ====
section
/-!
DEFINITION. One step: fetch at `pc`, decode, run (`30_encoding.md` R93; `60_exceptions.md` R418 items 1 and 2).
-/

namespace Sys2Proof.Machine

/-- One step of the machine. A misaligned `pc` raises Address Error (R416 c), a word that is no instruction Reserved
Instruction (R414 a, b); any other word runs. -/
def step (s : State) : Host.Outcome State Fault Refusal :=
  match s.fetch with
  | none => raise .addressError s.pc s
  | some w =>
    match decodeWord w with
    | .error _ => raise .reservedInstruction (w.setWidth 64) s
    | .ok i => exec i s

/-- What the environment does so that the next step runs a given instruction (log 11): it places the word at `pc` and
enables the Module, which no instruction can do (`70_reset_and_hazards.md` R442 item 1). -/
def State.withFetchWord (s : State) (nbits w : Nat) : State :=
  (s.storeWord s.pc (BitVec.ofNat 32 (w % 2 ^ nbits))).setDspEnabled true

end Sys2Proof.Machine
end

