-- ==== Sys2Proof/Safety.lean ====
section
/-!
DEFINITION. The terms the statements use: when an instruction is available, what a state keeps, what each instruction
may change, and the results of the arithmetic helpers said in exact integers rather than in the bit strings of the
pages.
-/

namespace Sys2Proof.Machine

/-! ### When an instruction runs -/

/-- `DSP_CHECK` of the instruction passes: the revision and the release have it, and the Module is enabled
(`60_exceptions.md` R412). -/
def Available (i : Instr) (s : State) : Prop :=
  i.isaTag.rev ≤ s.params.dspRev.number ∧ ¬ (s.params.baseRelease = .r6 ∧ i.isaTag = .preR6) ∧ s.dspEnabled = true

/-! ### What a state keeps -/

/-- What every step keeps (`10_state.md` R21, R24, R25, R31): an aligned `pc`, an aligned delayed target that only a
delay slot can hold, register 0 (log 13) and bit 15 of `DSPControl` (log 23) at zero, memory in its canonical form,
which is the model's own (log 6). -/
structure State.Inv (s : State) : Prop where
  pcAligned : s.pc.toNat % 4 = 0
  delayedAligned : ∀ a, s.delayed = some a → a.toNat % 4 = 0
  delayedInDelaySlot : s.delayed ≠ none → s.slot = .delay
  zeroRegister : s.gprs.get 0 = 0#64
  reservedBit : s.dspControl.getLsbD 15 = false
  canonicalMemory : s.mem.wf = true

/-- The environment's part of the state is the same: memory, parameters, the enable (`10_state.md` R38,
`20_memory.md` R51). -/
def SameEnvironment (s t : State) : Prop :=
  t.mem = s.mem ∧ t.params = s.params ∧ t.dspEnabled = s.dspEnabled

/-- Every general register but those listed is the same. -/
def SameGprsBut (l : List Reg) (s t : State) : Prop := ∀ r, r ∉ l → t.gpr r = s.gpr r

/-- Both halves of every accumulator but those listed are the same. -/
def SameAccsBut (l : List Acc) (s t : State) : Prop := ∀ a, a ∉ l → t.hi a = s.hi a ∧ t.lo a = s.lo a

/-- Every bit of `DSPControl` but those listed is the same. -/
def SameControlBut (l : List Nat) (s t : State) : Prop :=
  ∀ n, n ∉ l → t.dspControl.getLsbD n = s.dspControl.getLsbD n

/-- Every byte of memory reads the same. -/
def SameBytes (s t : State) : Prop := ∀ a, t.readByte a = s.readByte a

/-! ### What each instruction may change -/

/-- The general registers an instruction may write: the destination of its format (`30_encoding.md` R71, R91). -/
def destGprs : Instr → List Reg
  | .adduQb rd _ _ | .subuQb rd _ _ | .adduSQb rd _ _ | .subuSQb rd _ _ | .muleuSPhQbl rd _ _
  | .muleuSPhQbr rd _ _ | .adduPh rd _ _ | .subuPh rd _ _ | .addqPh rd _ _ | .subqPh rd _ _ | .adduSPh rd _ _
  | .subuSPh rd _ _ | .addqSPh rd _ _ | .subqSPh rd _ _ | .addsc rd _ _ | .addwc rd _ _ | .modsub rd _ _
  | .addqSW rd _ _ | .subqSW rd _ _ | .muleqSWPhl rd _ _ | .muleqSWPhr rd _ _ | .mulqSPh rd _ _
  | .mulqRsPh rd _ _ | .radduWQb rd _ | .pickQb rd _ _ | .cmpguEqQb rd _ _ | .cmpguLtQb rd _ _
  | .cmpguLeQb rd _ _ | .pickPh rd _ _ | .precrqQbPh rd _ _ | .precrQbPh rd _ _ | .packrlPh rd _ _
  | .precrquSQbPh rd _ _ | .precrqPhW rd _ _ | .precrqRsPhW rd _ _ | .cmpgduEqQb rd _ _ | .cmpgduLtQb rd _ _
  | .cmpgduLeQb rd _ _ | .absqSQb rd _ | .replQb rd _ | .replvQb rd _ | .precequPhQbl rd _
  | .precequPhQbr rd _ | .precequPhQbla rd _ | .precequPhQbra rd _ | .absqSPh rd _ | .replPh rd _
  | .replvPh rd _ | .preceqWPhl rd _ | .preceqWPhr rd _ | .absqSW rd _ | .bitrev rd _ | .preceuPhQbl rd _
  | .preceuPhQbr rd _ | .preceuPhQbla rd _ | .preceuPhQbra rd _ | .shllQb rd _ _ | .shrlQb rd _ _
  | .shllvQb rd _ _ | .shrlvQb rd _ _ | .shraQb rd _ _ | .shraRQb rd _ _ | .shravQb rd _ _ | .shravRQb rd _ _
  | .shllPh rd _ _ | .shraPh rd _ _ | .shllvPh rd _ _ | .shravPh rd _ _ | .shllSPh rd _ _ | .shraRPh rd _ _
  | .shllvSPh rd _ _ | .shravRPh rd _ _ | .shllSW rd _ _ | .shraRW rd _ _ | .shllvSW rd _ _ | .shravRW rd _ _
  | .shrlPh rd _ _ | .shrlvPh rd _ _ | .adduhQb rd _ _ | .subuhQb rd _ _ | .adduhRQb rd _ _
  | .subuhRQb rd _ _ | .addqhPh rd _ _ | .subqhPh rd _ _ | .addqhRPh rd _ _ | .subqhRPh rd _ _
  | .mulPh rd _ _ | .mulSPh rd _ _ | .addqhW rd _ _ | .subqhW rd _ _ | .addqhRW rd _ _ | .subqhRW rd _ _
  | .mulqSW rd _ _ | .mulqRsW rd _ _ | .rddsp rd _ | .lwx rd _ _ | .lhx rd _ _ | .lbux rd _ _ | .ldx rd _ _
  | .mfhi rd _ | .mflo rd _ => [rd]
  | .precrSraPhW rt _ _ | .precrSraRPhW rt _ _ | .append rt _ _ | .prepend rt _ _ | .balign rt _ _
  | .extrW rt _ _ | .extrvW rt _ _ | .extp rt _ _ | .extpv rt _ _ | .extrRW rt _ _ | .extrvRW rt _ _
  | .extrRsW rt _ _ | .extrvRsW rt _ _ | .extpdp rt _ _ | .extpdpv rt _ _ | .extrSH rt _ _ | .extrvSH rt _ _
  | .insv rt _ => [rt]
  | _ => []

/-- The accumulators an instruction may write, the side effect on `ac0` included (`10_state.md` R29). -/
def writtenAccs : Instr → List Acc
  | .muleuSPhQbl _ _ _ | .muleuSPhQbr _ _ _ | .muleqSWPhl _ _ _ | .muleqSWPhr _ _ _ | .mulqSPh _ _ _
  | .mulqRsPh _ _ _ | .mulPh _ _ _ | .mulSPh _ _ _ | .mulqSW _ _ _ | .mulqRsW _ _ _ => [0]
  | .dpaWPh ac _ _ | .dpsWPh ac _ _ | .mulsaWPh ac _ _ | .dpauHQbl ac _ _ | .dpaqSWPh ac _ _
  | .dpsqSWPh ac _ _ | .mulsaqSWPh ac _ _ | .dpauHQbr ac _ _ | .dpaxWPh ac _ _ | .dpsxWPh ac _ _
  | .dpsuHQbl ac _ _ | .dpaqSaLW ac _ _ | .dpsqSaLW ac _ _ | .dpsuHQbr ac _ _ | .maqSaWPhl ac _ _
  | .maqSaWPhr ac _ _ | .maqSWPhl ac _ _ | .maqSWPhr ac _ _ | .dpaqxSWPh ac _ _ | .dpsqxSWPh ac _ _
  | .dpaqxSaWPh ac _ _ | .dpsqxSaWPh ac _ _ | .shilo ac _ | .shilov ac _ | .mthlip _ ac | .madd ac _ _
  | .maddu ac _ _ | .msub ac _ _ | .msubu ac _ _ | .mult ac _ _ | .multu ac _ _ | .mthi _ ac | .mtlo _ ac => [ac]
  | _ => []

/-- The `ouflag` bit an instruction may set (`10_state.md` R33); WRDSP apart, which overwrites the field. -/
def ouflagBit : Instr → Option Nat
  | .adduQb _ _ _ | .subuQb _ _ _ | .adduSQb _ _ _ | .subuSQb _ _ _ | .adduPh _ _ _ | .subuPh _ _ _
  | .addqPh _ _ _ | .subqPh _ _ _ | .adduSPh _ _ _ | .subuSPh _ _ _ | .addqSPh _ _ _ | .subqSPh _ _ _
  | .addwc _ _ _ | .addqSW _ _ _ | .subqSW _ _ _ | .absqSQb _ _ | .absqSPh _ _ | .absqSW _ _ => some 20
  | .muleuSPhQbl _ _ _ | .muleuSPhQbr _ _ _ | .muleqSWPhl _ _ _ | .muleqSWPhr _ _ _ | .mulqSPh _ _ _
  | .mulqRsPh _ _ _ | .mulPh _ _ _ | .mulSPh _ _ _ | .mulqSW _ _ _ | .mulqRsW _ _ _ => some 21
  | .precrquSQbPh _ _ _ | .precrqRsPhW _ _ _ | .shllQb _ _ _ | .shllvQb _ _ _ | .shllPh _ _ _
  | .shllvPh _ _ _ | .shllSPh _ _ _ | .shllvSPh _ _ _ | .shllSW _ _ _ | .shllvSW _ _ _ => some 22
  | .dpaqSWPh ac _ _ | .dpsqSWPh ac _ _ | .mulsaqSWPh ac _ _ | .dpaqSaLW ac _ _ | .dpsqSaLW ac _ _
  | .maqSaWPhl ac _ _ | .maqSaWPhr ac _ _ | .maqSWPhl ac _ _ | .maqSWPhr ac _ _ | .dpaqxSWPh ac _ _
  | .dpsqxSWPh ac _ _ | .dpaqxSaWPh ac _ _ | .dpsqxSaWPh ac _ _ => some (accFlag ac)
  | .extrW _ _ _ | .extrvW _ _ _ | .extrRW _ _ _ | .extrvRW _ _ _ | .extrRsW _ _ _ | .extrvRsW _ _ _
  | .extrSH _ _ _ | .extrvSH _ _ _ => some 23
  | _ => none

/-- The bits of `DSPControl` an instruction may write (`10_state.md` R31 to R37). -/
def writtenControl : Instr → List Nat
  | .adduQb _ _ _ | .subuQb _ _ _ | .adduSQb _ _ _ | .subuSQb _ _ _ | .adduPh _ _ _ | .subuPh _ _ _
  | .addqPh _ _ _ | .subqPh _ _ _ | .adduSPh _ _ _ | .subuSPh _ _ _ | .addqSPh _ _ _ | .subqSPh _ _ _
  | .addwc _ _ _ | .addqSW _ _ _ | .subqSW _ _ _ | .absqSQb _ _ | .absqSPh _ _ | .absqSW _ _ => [20]
  | .muleuSPhQbl _ _ _ | .muleuSPhQbr _ _ _ | .muleqSWPhl _ _ _ | .muleqSWPhr _ _ _ | .mulqSPh _ _ _
  | .mulqRsPh _ _ _ | .mulPh _ _ _ | .mulSPh _ _ _ | .mulqSW _ _ _ | .mulqRsW _ _ _ => [21]
  | .addsc _ _ _ => [13]
  | .cmpuEqQb _ _ | .cmpuLtQb _ _ | .cmpuLeQb _ _ | .cmpEqPh _ _ | .cmpLtPh _ _ | .cmpLePh _ _
  | .cmpgduEqQb _ _ _ | .cmpgduLtQb _ _ _ | .cmpgduLeQb _ _ _ => List.range' 24 8
  | .precrquSQbPh _ _ _ | .precrqRsPhW _ _ _ | .shllQb _ _ _ | .shllvQb _ _ _ | .shllPh _ _ _
  | .shllvPh _ _ _ | .shllSPh _ _ _ | .shllvSPh _ _ _ | .shllSW _ _ _ | .shllvSW _ _ _ => [22]
  | .dpaqSWPh ac _ _ | .dpsqSWPh ac _ _ | .mulsaqSWPh ac _ _ | .dpaqSaLW ac _ _ | .dpsqSaLW ac _ _
  | .maqSaWPhl ac _ _ | .maqSaWPhr ac _ _ | .maqSWPhl ac _ _ | .maqSWPhr ac _ _ | .dpaqxSWPh ac _ _
  | .dpsqxSWPh ac _ _ | .dpaqxSaWPh ac _ _ | .dpsqxSaWPh ac _ _ => [accFlag ac]
  | .extrW _ _ _ | .extrvW _ _ _ | .extrRW _ _ _ | .extrvRW _ _ _ | .extrRsW _ _ _ | .extrvRsW _ _ _
  | .extrSH _ _ _ | .extrvSH _ _ _ => [23]
  | .extp _ _ _ | .extpv _ _ _ => [14]
  | .extpdp _ _ _ | .extpdpv _ _ _ => 14 :: List.range 7
  | .wrdsp _ mask => (List.range 32).filter (fun n => (controlMask mask).getLsbD n)
  | .mthlip _ _ => List.range 7
  | _ => []

/-- The control transfer instructions in scope (`42_branch_compare_pick.md` R203). -/
def isBranch : Instr → Bool
  | .bposge32 _ | .bposge32c _ => true
  | _ => false

/-- The address and the width of a load (`20_memory.md` R51, R53); none for an instruction that reads no memory. -/
def loadAccess (s : State) : Instr → Option (Addr × Nat)
  | .lwx _ index base => some (s.wordAddress index base, 4)
  | .lhx _ index base => some (s.wordAddress index base, 2)
  | .lbux _ index base => some (s.wordAddress index base, 1)
  | .ldx _ index base => some (s.dwordAddress index base, 8)
  | _ => none

/-- What an instruction sets `ac0_unread` to, if anything (`10_state.md` R30). -/
def unreadAfter : Instr → Option Bool
  | .mult ac _ _ | .multu ac _ _ => if ac = 0 then some true else none
  | .mfhi _ ac | .mflo _ ac | .mthi _ ac | .mtlo _ ac => if ac = 0 then some false else none
  | _ => none

/-! ### Results in exact integers -/

/-- `x` is a value of `n` signed bits. -/
def fitsSigned (n : Nat) (x : Int) : Bool := decide (-2 ^ (n - 1) ≤ x) && decide (x ≤ 2 ^ (n - 1) - 1)

/-- `x` is a value of `n` unsigned bits. -/
def fitsUnsigned (n : Nat) (x : Int) : Bool := decide (0 ≤ x) && decide (x ≤ 2 ^ n - 1)

/-- The value of `n` signed bits nearest to `x`. -/
def clampSigned (n : Nat) (x : Int) : Int := max (-2 ^ (n - 1)) (min (2 ^ (n - 1) - 1) x)

/-- The value of `n` unsigned bits nearest to `x`. -/
def clampUnsigned (n : Nat) (x : Int) : Int := max 0 (min (2 ^ n - 1) x)

/-- `x` modulo `2 ^ n`, with the flag when it is no signed value of `n` bits. -/
def wrapSigned (n : Nat) (x : Int) : Flagged n := (BitVec.ofInt n x, !fitsSigned n x)

/-- `x` saturated to `n` signed bits, with the flag when it had to be. -/
def saturateSigned (n : Nat) (x : Int) : Flagged n := (BitVec.ofInt n (clampSigned n x), !fitsSigned n x)

/-- `x` modulo `2 ^ n`, with the flag when it is no unsigned value of `n` bits. -/
def wrapUnsigned (n : Nat) (x : Int) : Flagged n := (BitVec.ofInt n x, !fitsUnsigned n x)

/-- `x` saturated to `n` unsigned bits, with the flag when it had to be. -/
def saturateUnsigned (n : Nat) (x : Int) : Flagged n := (BitVec.ofInt n (clampUnsigned n x), !fitsUnsigned n x)

/-- The unsigned value of a bit string, as an integer. -/
def uint {n : Nat} (a : BitVec n) : Int := (a.toNat : Int)

/-- The fractional product of two `n`-bit values, clamped: only -1.0 times -1.0 has to be. -/
def fracProduct {n : Nat} (a b : BitVec n) : Int := clampSigned (2 * n) (2 * (a.toInt * b.toInt))

/-- The fractional product had to be clamped. -/
def fracClamped {n : Nat} (a b : BitVec n) : Bool := !fitsSigned (2 * n) (2 * (a.toInt * b.toInt))

/-- `x / 2 ^ s` rounded down after adding one half; `x` for `s` = 0. -/
def roundDiv (x : Int) (s : Nat) : Int := if s = 0 then x else (x + 2 ^ (s - 1)) / 2 ^ s

/-! ### Fields and bytes -/

/-- The mask of an RDDSP or WRDSP selects bit `n` of `DSPControl` (`10_state.md` R31, the layout table). -/
def maskSelects (mask : BitVec 10) (n : Nat) : Bool :=
  (mask.getLsbD 0 && decide (n ≤ 6)) ||
  (mask.getLsbD 1 && decide (7 ≤ n) && decide (n ≤ 12)) ||
  (mask.getLsbD 2 && decide (n = 13)) ||
  (mask.getLsbD 3 && decide (16 ≤ n) && decide (n ≤ 23)) ||
  (mask.getLsbD 4 && decide (24 ≤ n) && decide (n ≤ 31)) ||
  (mask.getLsbD 5 && decide (n = 14))

/-- The value of the `n` bytes from address `a`: least significant first, or most significant first where the machine
is big-endian (`20_memory.md` R52). -/
def bytesValue (s : State) (a : Addr) : Nat → Nat
  | 0 => 0
  | n + 1 =>
    if s.params.bigEndian then bytesValue s a n * 2 ^ 8 + (s.readByte (a + BitVec.ofNat 64 n)).toNat
    else bytesValue s a n + (s.readByte (a + BitVec.ofNat 64 n)).toNat * 2 ^ (8 * n)

end Sys2Proof.Machine
end

