-- ==== Sys2Proof/Certificates/Slice0/Obligations.lean ====
section
/-!
DEFINITION. The statements for the provers. Each docstring says which rules of `spec/` a statement formalises; where a
statement speaks of a value the spec leaves open it holds for whatever the free value is (log 9). The statements of results
hold for every operand, because none is out of format (decision D14, log 22), and for destination 0, where nothing is
written and all other effects happen (PRESUMED, decision D3, log 13).
-/

open Sys2Proof Sys2Proof.Machine Sys2Proof.Config

/-- For every one of the 161 instructions, with every operand at every value its field admits, decoding the encoded
word gives exactly that instruction: no field bit is dropped or moved. The fields are those of the spec's tables,
where the zero field of DPAX.W.PH and DPSX.W.PH has three bits by resolution C20 of a misprinted figure (log 19).
[derived: 30_encoding.md R70, 30_encoding.md R71, 30_encoding.md R87] -/
def Obligations.DecodeInvertsEncode : Prop :=
  ∀ i : Instr, i.wellFormed = true → decodeWord (encode i) = .ok i

/-- Whatever word decodes to an instruction is that instruction's encoding, bit for bit, and the instruction is well
formed: every word has at most one meaning, and no must-be-zero bit is ignored. That a word with a non-zero
must-be-zero field has no meaning is the spec's decision D16 (log 15), and the width of that field in DPAX.W.PH and
DPSX.W.PH its resolution C20 (log 19). [derived: 30_encoding.md R70, 30_encoding.md R88] -/
def Obligations.EncodeInvertsDecode : Prop :=
  ∀ (w : Word) (i : Instr), decodeWord w = .ok i → i.wellFormed = true ∧ encode i = w

/-- A word decodes to an instruction exactly when it matches some row of the opcode table (its masked bits are the
row's match), and then the row it matches has that instruction's mnemonic and availability tag. No word matches two
rows. That every other word has no meaning, one with a non-zero must-be-zero field included, is the spec's decision
D16 (log 15). [derived: 30_encoding.md R93, R413] -/
def Obligations.DecoderFollowsTheOpcodeTable : Prop :=
  (∀ (w : Word) (i : Instr), decodeWord w = .ok i →
      ∃ r ∈ opcodeRows, w &&& r.mask = r.pattern ∧ r.mnemonic = i.mnemonic ∧ r.tag = i.isaTag) ∧
  (∀ (w : Word) (r : OpcodeRow), r ∈ opcodeRows → w &&& r.mask = r.pattern → ∃ i, decodeWord w = .ok i) ∧
  (∀ (w : Word) (r q : OpcodeRow), r ∈ opcodeRows → q ∈ opcodeRows → w &&& r.mask = r.pattern → w &&& q.mask = q.pattern →
      r = q)

/-- One word of every instruction class, assembled by hand from the encoding figures of the spec, decodes to its
instruction with its operands. Where a figure prints a lone 0 for a field, its width is the spec's resolution (C27,
C39, log 19). [derived: 30_encoding.md sections 2 to 6, 95_test_vectors.md] -/
def Obligations.SampleWordsDecode : Prop :=
  decodeWord 0b011111_01011_11111_00101_00000_010000#32 = .ok (.adduQb 5 11 31) ∧
  decodeWord 0b011111_10111_01100_10100_11010_010001#32 = .ok (.cmpgduLeQb 20 23 12) ∧
  decodeWord 0b011111_10001_10000_00000_01001_010001#32 = .ok (.cmpLtPh 17 16) ∧
  decodeWord 0b011111_10000_10011_11010_11110_010001#32 = .ok (.precrSraPhW 19 16 26) ∧
  decodeWord 0b011111_00000_01111_01100_10001_010010#32 = .ok (.absqSW 12 15) ∧
  decodeWord 0b011111_0100100100_10111_01010_010010#32 = .ok (.replPh 23 0x124#10) ∧
  decodeWord 0b011111_00_01000110_10000_00010_010010#32 = .ok (.replQb 16 0x46#8) ∧
  decodeWord 0b011111_00000_00110_10100_11011_010010#32 = .ok (.bitrev 20 6) ∧
  decodeWord 0b011111_00_010_01101_01101_00000_010011#32 = .ok (.shllQb 13 13 2) ∧
  decodeWord 0b011111_10000_11011_10011_01011_010011#32 = .ok (.shravPh 19 27 16) ∧
  decodeWord 0b011111_00101_10111_11100_10100_010011#32 = .ok (.shllSW 28 23 5) ∧
  decodeWord 0b011111_11100_00111_10100_10000_011000#32 = .ok (.addqhW 20 28 7) ∧
  decodeWord 0b011111_10000_01010_000_01_00000_110000#32 = .ok (.dpaWPh 1 16 10) ∧
  decodeWord 0b011111_10000_00111_000_10_00010_111000#32 = .ok (.extp 7 2 16) ∧
  decodeWord 0b011111_01000_00100_000_01_00001_111000#32 = .ok (.extrvW 4 1 8) ∧
  decodeWord 0b011111_0101010101_00011_10010_111000#32 = .ok (.rddsp 3 0x155#10) ∧
  decodeWord 0b011111_11010_1111001001_10011_111000#32 = .ok (.wrdsp 26 0x3c9#10) ∧
  decodeWord 0b011111_111111_0000_000_11_11010_111000#32 = .ok (.shilo 3 0x3f#6) ∧
  decodeWord 0b011111_01101_00000_000_11_11111_111000#32 = .ok (.mthlip 13 3) ∧
  decodeWord 0b011111_11110_11000_000_10_10000_110001#32 = .ok (.balign 24 30 2) ∧
  decodeWord 0b011111_11101_01111_11010_01000_001010#32 = .ok (.ldx 26 15 29) ∧
  decodeWord 0b011111_10101_00101_00000_00000_001100#32 = .ok (.insv 5 21) ∧
  decodeWord 0b000001_00000_11100_1001110010010001#32 = .ok (.bposge32 0x9c91#16) ∧
  decodeWord 0b000001_00000_11000_1101001110010111#32 = .ok (.bposge32c 0xd397#16) ∧
  decodeWord 0b011100_10100_10000_000_11_00000_000000#32 = .ok (.madd 3 20 16) ∧
  decodeWord 0b000000_10101_00100_000_11_00000_011000#32 = .ok (.mult 3 21 4) ∧
  decodeWord 0b000000_000_10_00000_11100_00000_010000#32 = .ok (.mfhi 28 2) ∧
  decodeWord 0b000000_00001_00000_000_10_00000_010011#32 = .ok (.mtlo 1 2)

/-- When pc is a multiple of 4 and the four bytes there, taken in the byte order of the machine, decode to an
instruction, one step is that instruction's meaning on the whole state; step adds nothing around it. That the word
is read from the memory of data and in its byte order, R50 and R56 take from general knowledge (PRESUMED, log 28);
the order is a parameter (decision D6, log 8). That a fetch does not ask the oracle is resolution C40 (log 19).
[derived: 30_encoding.md R93, R418, 20_memory.md R56] -/
def Obligations.StepRunsTheDecodedInstruction : Prop :=
  ∀ (s : State) (i : Instr), s.pc.toNat % 4 = 0 →
    decodeBytes s.params.bigEndian [s.readByte s.pc, s.readByte (s.pc + 1#64), s.readByte (s.pc + 2#64),
      s.readByte (s.pc + 3#64)] = .ok (i, []) →
    step s = exec i s

/-- At a pc that is not a multiple of 4 the step ends in Address Error with pc as info; at an aligned pc whose word
does not decode it ends in Reserved Instruction with the word, zero-extended, as info. These are the spec's
decisions D5 and D16 (log 1, log 15). Their order is decision D13, and D5 and D13 are named in log 27. That every
word of no row traps, and that a fetch does not ask the oracle, is resolution C40 (log 19). [derived:
60_exceptions.md section 3, 92_eei_decisions.md D5, 92_eei_decisions.md D16, 92_eei_decisions.md D13] -/
def Obligations.FetchAndDecodeTraps : Prop :=
  (∀ s : State, s.pc.toNat % 4 ≠ 0 → step s = raise .addressError s.pc s) ∧
  (∀ (s : State) (e : DecodeError), s.pc.toNat % 4 = 0 → decodeWord (s.read32 s.pc) = .error e →
    step s = raise .reservedInstruction ((s.read32 s.pc).setWidth 64) s)

/-- From every state in which pc is a multiple of 4, a delayed target is a multiple of 4 and exists only in a delay
slot, register 0 and the reserved bit 15 of DSPControl hold 0, and memory is in canonical form, a step that answers
a next state leads to a state in which all of this holds again. The spec gives the alignment (R25), the latch (R24)
and the absence of stores (R51). The canonical form of memory is the model's own (log 6, DESIGN CHOICE); that
register 0 is zero is PRESUMED (R21 takes it from general knowledge, decision D3, log 13); that bit 15, which R31
holds at 0, stays so is DEDUCED (log 23). [derived: R21, R24, R25, R31, R51] -/
def Obligations.StepKeepsTheInvariant : Prop :=
  ∀ s t : State, s.Inv → step s = .next t → t.Inv

/-- The reset state has the invariant; so has the reset with any parameters, register file, accumulators and
DSPControl, provided the pc given is aligned and the memory given is in canonical form. The canonical form of memory
and the values of State.reset are the model's choices (log 2 to 6). [derived: 10_state.md section 6,
70_reset_and_hazards.md section 1, 92_eei_decisions.md D10] -/
def Obligations.ResetHoldsTheInvariant : Prop :=
  State.reset.Inv ∧
  ∀ (params : Params) (gprs : Vector DWord 32) (accs : Vector Accum 4) (d : Word) (pc : Addr) (mem : Memory),
    pc.toNat % 4 = 0 → Memory.wf mem = true → (State.resetWith params gprs accs d pc mem).Inv

/-- For every register file, accumulators, DSPControl, pc and memory given: after reset every general register but 0
holds the value given and register 0 holds 0; both halves of every accumulator, pc, memory and every bit of
DSPControl but 15 are as given, bit 15 is 0; DSPEnabled and ac0_unread are false, no slot, no delayed target. The
table is the spec's decision D10; the values State.reset itself names are the model's (log 2 to 6) and are not
stated here. [derived: 10_state.md section 6, 70_reset_and_hazards.md section 1, 92_eei_decisions.md D10] -/
def Obligations.ResetValues : Prop :=
  ∀ (params : Params) (gprs : Vector DWord 32) (accs : Vector Accum 4) (d : Word) (pc : Addr) (mem : Memory),
    (∀ r : Reg, (State.resetWith params gprs accs d pc mem).gpr r = if r = 0 then 0#64 else gprs.get r) ∧
    (∀ a : Acc, (State.resetWith params gprs accs d pc mem).hi a = (accs.get a).hi ∧
      (State.resetWith params gprs accs d pc mem).lo a = (accs.get a).lo) ∧
    (∀ n : Nat, (State.resetWith params gprs accs d pc mem).dspControl.getLsbD n = (decide (n ≠ 15) && d.getLsbD n)) ∧
    (State.resetWith params gprs accs d pc mem).pc = pc ∧
    (State.resetWith params gprs accs d pc mem).mem = mem ∧
    (State.resetWith params gprs accs d pc mem).params = params ∧
    (State.resetWith params gprs accs d pc mem).dspEnabled = false ∧
    (State.resetWith params gprs accs d pc mem).ac0Unread = false ∧
    (State.resetWith params gprs accs d pc mem).inSlot = false ∧
    (State.resetWith params gprs accs d pc mem).delayed = none

/-- In both byte orders, from memory in canonical form: after the environment places a word at an aligned address,
the word read at that address is it, every byte outside its four bytes reads as before, and where pc is that address
and the word decodes the next step runs that instruction. That the environment places words so, and the canonical
form, are the model's (log 6, log 11). The byte order is a parameter (decision D6, log 8), and that a fetch uses it
is PRESUMED (R56, log 28). [derived: 20_memory.md R52, 20_memory.md R56, 20_memory.md section 1] -/
def Obligations.PlacedWordIsFetched : Prop :=
  ∀ (s : State) (a : Addr) (w : Word), s.mem.wf = true → a.toNat % 4 = 0 →
    (s.storeWord a w).read32 a = w ∧
    (∀ b : Addr, (b.toNat < a.toNat ∨ a.toNat + 4 ≤ b.toNat) → (s.storeWord a w).readByte b = s.readByte b) ∧
    ∀ i, s.pc = a → decodeWord w = .ok i → step (s.storeWord a w) = exec i (s.storeWord a w)

/-- Every one of the 161 instructions answers a next state when DSP_CHECK passes, a branch is in no slot, and a load
is aligned with no fault from the oracle, whatever the data; and it answers one in no other case. When an
instruction is available rests on the spec's decisions D1, D4, D19 and D21 (log 25, log 27), the forbidden slot
before Release 6 on D18 (log 27), the address of LBUX, LHX and LWX on D8 (log 27), and the oracle is the model's
table (decision D7, log 16). [derived: R412, R414, R416, R417, R419, R203, R205, R340] -/
def Obligations.InstructionsCompleteExactlyWhenAllowed : Prop :=
  ∀ (i : Instr) (s : State),
    (Available i s → (isBranch i = true → s.slot = .none) →
      (∀ a n, loadAccess s i = some (a, n) → a.toNat % n = 0 ∧ memFault s.params.memFault a n = none) →
      ∃ t, exec i s = .next t) ∧
    (∀ t, exec i s = .next t → Available i s ∧ (isBranch i = true → s.slot = .none) ∧
      ∀ a n, loadAccess s i = some (a, n) → a.toNat % n = 0 ∧ memFault s.params.memFault a n = none)

/-- An instruction whose revision is above DSP_REV raises Reserved Instruction; else one of the ten pre-Release 6
instructions under r6 raises Reserved Instruction; else, with the Module disabled, DSP Disabled; each with the
instruction word as info. The ten instructions are named. A branch must be in no slot for this. What runs when no
check fails is InstructionsCompleteExactlyWhenAllowed. The conditions and their order are the spec's decisions D13,
D19 and D21 (log 25). That revisions are cumulative is decision D1 and the enable D4 (log 27); the word in the
record is that of the encoding (log 14). [derived: 60_exceptions.md section 2, 92_eei_decisions.md D13,
92_eei_decisions.md D19, 92_eei_decisions.md D21] -/
def Obligations.DspCheckTraps : Prop :=
  (∀ (i : Instr) (s : State), (isBranch i = true → s.slot = .none) →
    (s.params.dspRev.number < i.isaTag.rev →
      exec i s = raise .reservedInstruction ((encode i).setWidth 64) s) ∧
    (i.isaTag.rev ≤ s.params.dspRev.number → s.params.baseRelease = .r6 → i.isaTag = .preR6 →
      exec i s = raise .reservedInstruction ((encode i).setWidth 64) s) ∧
    (i.isaTag.rev ≤ s.params.dspRev.number → ¬ (s.params.baseRelease = .r6 ∧ i.isaTag = .preR6) →
      s.dspEnabled = false → exec i s = raise .dspDisabled ((encode i).setWidth 64) s)) ∧
  (∀ i : Instr, i.isaTag = .preR6 ↔
    i.mnemonic ∈ ["MADD", "MADDU", "MSUB", "MSUBU", "MULT", "MULTU", "MFHI", "MFLO", "MTHI", "MTLO"])

/-- BPOSGE32 and BPOSGE32C about to execute in a delay slot end the run as an unpredictable operation with
BASE_RELEASE = pre6, and raise Reserved Instruction with r6, whatever the revision, even with the Module disabled,
and whether or not the first branch is taken. R414 and R418 put the Release 6 check before DSP_CHECK; for the
pre-Release 6 case no rule gives an order, and that it comes first there as well is the model's reading (log 12,
DEDUCED). Which branch set the slot is held as log 10 says, and the word in the record is that of the encoding (log
14). [derived: R203, R414, R418, R422] -/
def Obligations.BranchInTheDelaySlot : Prop :=
  ∀ (i : Instr) (s : State), isBranch i = true → s.slot = .delay →
    (s.params.baseRelease = .pre6 → exec i s = .fault (.unpredOp .ctiInDelaySlot)) ∧
    (s.params.baseRelease = .r6 → exec i s = raise .reservedInstruction ((encode i).setWidth 64) s)

/-- BPOSGE32 and BPOSGE32C about to execute in the forbidden slot of a not-taken BPOSGE32C raise Reserved
Instruction for both values of BASE_RELEASE, even with the Module disabled; and the slot of an executed BPOSGE32C is
the forbidden one exactly when it is not taken. That it holds before Release 6 is the spec's decision D18 (log 27).
That BPOSGE32C has that slot in place of the delay slot its page's Operation shows is the spec's resolution C17 (log
19); the slot is held as log 10 says, and the word in the record is that of the encoding (log 14). [derived:
42_branch_compare_pick.md section 2, 92_eei_decisions.md D18] -/
def Obligations.BranchInTheForbiddenSlot : Prop :=
  (∀ (i : Instr) (s : State), isBranch i = true → s.slot = .forbidden →
    exec i s = raise .reservedInstruction ((encode i).setWidth 64) s) ∧
  (∀ (offset : BitVec 16) (s t : State), exec (.bposge32c offset) s = .next t →
    (t.slot = .forbidden ↔ s.dspControl.toNat % 2 ^ 7 < 32))

/-- An available load whose address is not a multiple of its width raises Address Error with the address; an aligned
one for which the oracle answers an exception raises that exception with the address. Alignment comes first
(decision D13). The oracle as a table of ranges is the model's form of it (log 16). That the address of LBUX, LHX
and LWX is a sign-extended sum is decision D8, and both are named in log 27; that no translation changes it is
decision D7 (log 20). [derived: 45_loads.md section 1, 60_exceptions.md section 3, 20_memory.md R58,
92_eei_decisions.md D7] -/
def Obligations.LoadTraps : Prop :=
  ∀ (i : Instr) (s : State) (a : Addr) (n : Nat), Available i s → loadAccess s i = some (a, n) →
    (a.toNat % n ≠ 0 → exec i s = raise .addressError a s) ∧
    (∀ k, a.toNat % n = 0 → memFault s.params.memFault a n = some k → exec i s = raise (causeOf k) a s)

/-- Whenever an instruction or a step ends in a trap, the record has the pc of the state, in_slot as the state says,
and restart at pc - 4 in a slot and at pc otherwise; the record of an instruction's trap has as info its own word,
for Reserved Instruction and DSP Disabled, or the address of the load. The record is the spec's decision D22 (log 1,
log 14). The address of LBUX, LHX and LWX is that of decision D8 (log 27), and in_slot is read from the slot the
model holds (log 10). [derived: 60_exceptions.md section 4, 92_eei_decisions.md D22] -/
def Obligations.TrapRecord : Prop :=
  (∀ (s : State) (f : Trap), step s = .fault (.trap f) →
    f.pc = s.pc ∧ (f.inSlot = true ↔ s.slot ≠ .none) ∧ f.restart = if f.inSlot then s.pc - 4#64 else s.pc) ∧
  (∀ (i : Instr) (s : State) (f : Trap), exec i s = .fault (.trap f) →
    f.pc = s.pc ∧ (f.inSlot = true ↔ s.slot ≠ .none) ∧ (f.restart = if f.inSlot then s.pc - 4#64 else s.pc) ∧
    ((f.cause = .reservedInstruction ∨ f.cause = .dspDisabled) ∧ f.info = (encode i).setWidth 64 ∨
      ∃ n, loadAccess s i = some (f.info, n)))

/-- No instruction is ever refused, and the only fault that is no trap is that of a branch in the delay slot of a
BPOSGE32 with BASE_RELEASE = pre6, which does end so; a trap other than Reserved Instruction and DSP Disabled is one
of a load. That such a branch ends so even with the Module disabled or its revision above DSP_REV, before DSP_CHECK,
is the model's reading (log 12, DEDUCED): no rule gives that order. [derived: R203, R411, R419, R422] -/
def Obligations.OnlyTheNamedStops : Prop :=
  ∀ (i : Instr) (s : State),
    (∀ r, exec i s ≠ .refused r) ∧
    (∀ u, exec i s = .fault (.unpredOp u) ↔ isBranch i = true ∧ s.slot = .delay ∧ s.params.baseRelease = .pre6) ∧
    (∀ f, exec i s = .fault (.trap f) → f.cause ≠ .reservedInstruction → f.cause ≠ .dspDisabled →
      loadAccess s i ≠ none)

/-- When an instruction answers a next state, every general register but the destination of its format reads as
before (compares, branches, accumulator instructions and WRDSP have none), and register 0 reads zero (PRESUMED,
decision D3, log 13). That UNPREDICTABLE values stay in their destination, and that operands are never out of format
(decision D14), is log 22. [derived: 30_encoding.md R91, R21, R22, R100, R165, R230, R280, R370] -/
def Obligations.GeneralRegisterFrame : Prop :=
  ∀ (i : Instr) (s t : State), exec i s = .next t → SameGprsBut (destGprs i) s t ∧ t.gpr 0 = 0#64

/-- When an instruction answers a next state, both halves of every accumulator are unchanged, except the accumulator
named by an instruction that writes one and ac0 after one of the ten multiplies into a general register. That
UNPREDICTABLE values stay in their destination, and that operands are never out of format (decision D14), is log 22;
that MTLO may touch the HI half of its accumulator is resolution C3 (log 19). [derived: R29, R280, R350, R447] -/
def Obligations.AccumulatorFrame : Prop :=
  ∀ (i : Instr) (s t : State), exec i s = .next t → SameAccsBut (writtenAccs i) s t

/-- When an instruction answers a next state, every bit of DSPControl is unchanged except the flag bit of the
instruction, c for ADDSC, ccond for the compares, EFI and pos for the extracts, pos for MTHLIP, and the selected
fields for WRDSP. Which flag is an instruction's is collected by R33 (N3, log 27), for MUL.PH by resolution C31 and
for DPAQX_SA.W.PH and DPSQX_SA.W.PH by C21 (log 19); that UNPREDICTABLE values stay in the field named is log 22.
[derived: R31, R32, R33, R34, R35, R36, R37] -/
def Obligations.ControlFrame : Prop :=
  ∀ (i : Instr) (s t : State), exec i s = .next t → SameControlBut (writtenControl i) s t

/-- No instruction in scope stores: when one answers a next state, every byte of memory reads as before, memory and
parameters are the same, and DSPEnabled is as it was. That no instruction writes the enable is decision D4 and that
a read changes nothing D9 (log 27); the parameters stand in State by the model's choice (log 7). [derived: R51, R38,
R59, R4] -/
def Obligations.MemoryAndEnvironmentFrame : Prop :=
  ∀ (i : Instr) (s t : State), exec i s = .next t → SameBytes s t ∧ SameEnvironment s t

/-- When an instruction other than WRDSP answers a next state, every ouflag bit that was set is still set, and a bit
that was not set is set only where it is the bit the table of R33 assigns to the instruction. The table is collected
by the spec (N3, log 27), for MUL.PH by resolution C31 and for DPAQX_SA.W.PH and DPSQX_SA.W.PH by C21 (log 19).
[derived: R33, R419] -/
def Obligations.OuflagBitsAreSticky : Prop :=
  ∀ (i : Instr) (s t : State), (∀ rs mask, i ≠ .wrdsp rs mask) → exec i s = .next t →
    ∀ n, 16 ≤ n → n < 24 →
      (s.dspControl.getLsbD n = true → t.dspControl.getLsbD n = true) ∧
      (s.dspControl.getLsbD n = false → t.dspControl.getLsbD n = true → ouflagBit i = some n)

/-- When an instruction that is no branch answers a next state, the next pc is the delayed target where there is one
and pc + 4 modulo 2^64 otherwise, and that state is in no slot and holds no delayed target. That instructions follow
at pc + 4 R24 takes from general knowledge (PRESUMED, log 28); that the sum wraps is decision D5 (log 27); the slot
is held as log 10 says. [derived: R24, R39, R443] -/
def Obligations.NextPcAndSlot : Prop :=
  ∀ (i : Instr) (s t : State), isBranch i = false → exec i s = .next t →
    t.pc = s.delayed.getD (s.pc + 4#64) ∧ t.slot = .none ∧ t.delayed = none

/-- When an instruction answers a next state, ac0_unread is true after MULT or MULTU with ac = 0, false after MFHI,
MFLO, MTHI or MTLO with ac = 0, and as it was after anything else (decision D12). D12 is the narrowest reading of
the page's list (log 27). [derived: R30, R446, R280] -/
def Obligations.UnreadMarkOfAc0 : Prop :=
  ∀ (i : Instr) (s t : State), exec i s = .next t → t.ac0Unread = (unreadAfter i).getD s.ac0Unread

/-- Where a branch outside any slot answered a next state that is in a slot, the state from which the environment
restarts after a trap of the slot instruction is the very state the branch was executed in. This is the spec's
decision D22 (log 24). [derived: 60_exceptions.md section 4, 92_eei_decisions.md D22] -/
def Obligations.RestartAfterASlotTrap : Prop :=
  ∀ (i : Instr) (s t : State) (c : Cause) (info : DWord), isBranch i = true → s.delayed = none →
    exec i s = .next t → t.slot ≠ .none → t.resumeAfter (trapOf c info t) = s

/-- A write to a general register is read back there, is discarded for register 0, and touches no other; setting an
accumulator from 64 bits leaves that value to be read and both halves sign-extended words; writing one field of
DSPControl changes that field alone; raising a flag sets its bit where the condition holds and changes nothing else.
That register 0 reads as zero and discards writes is PRESUMED: R21 takes it from general knowledge (decision D3, log
13). The places of the fields of DSPControl are recovered by R31 (N3, log 27). [derived: R21, R27, R28, R31, R33,
10_state.md, 92_eei_decisions.md D3] -/
def Obligations.RegisterWritesReadBack : Prop :=
  (∀ (s : State) (r q : Reg) (v : DWord),
      (s.setGpr r v).gpr q = if q = r ∧ r ≠ 0 then v else s.gpr q) ∧
  (∀ (s : State) (r q : Reg) (w : Word),
      (s.setWord r w).gpr q = if q = r ∧ r ≠ 0 then BitVec.ofInt 64 w.toInt else s.gpr q) ∧
  (∀ (s : State) (a b : Acc) (v : DWord),
      (s.setAcc a v).acc b = (if b = a then v else s.acc b) ∧
      (s.setAcc a v).hi b = (if b = a then BitVec.ofInt 64 (v.toInt / 2 ^ 32) else s.hi b) ∧
      (s.setAcc a v).lo b = if b = a then BitVec.ofInt 64 (BitVec.ofNat 32 v.toNat).toInt else s.lo b) ∧
  (∀ (s : State) (n : Nat), n < 32 →
      (∀ v : BitVec 7, (s.setPos v).dspControl.getLsbD n = if n < 7 then v.getLsbD n else s.dspControl.getLsbD n) ∧
      (∀ v : BitVec 1, (s.setCarry v).dspControl.getLsbD n = if n = 13 then v.getLsbD 0 else s.dspControl.getLsbD n) ∧
      (∀ v : BitVec 1, (s.setEfi v).dspControl.getLsbD n = if n = 14 then v.getLsbD 0 else s.dspControl.getLsbD n) ∧
      (∀ v : BitVec 8, (s.setCcond v).dspControl.getLsbD n =
        if 24 ≤ n then v.getLsbD (n - 24) else s.dspControl.getLsbD n) ∧
      (∀ (k : Nat) (c : Bool), 16 ≤ k → k < 24 →
        (s.raiseOuflag k c).dspControl.getLsbD n = if n = k ∧ c = true then true else s.dspControl.getLsbD n))

/-- The halves and bytes of a word are its value divided and reduced as their positions say, and packing them gives
the word back. [derived: 00_scope.md R9] -/
def Obligations.ElementsOfAWord : Prop :=
  ∀ w : Word,
    (halfB w).toNat = w.toNat / 2 ^ 16 ∧ (halfA w).toNat = w.toNat % 2 ^ 16 ∧
    (byteD w).toNat = w.toNat / 2 ^ 24 ∧ (byteC w).toNat = w.toNat / 2 ^ 16 % 2 ^ 8 ∧
    (byteB w).toNat = w.toNat / 2 ^ 8 % 2 ^ 8 ∧ (byteA w).toNat = w.toNat % 2 ^ 8 ∧
    packPH (halfB w) (halfA w) = w ∧ packQB (byteD w) (byteC w) (byteB w) (byteA w) = w

/-- Two memories in canonical form that read the same at every address are the same list; so, in canonical form and
at addresses of the space, writing back what is read changes nothing, a second write to an address replaces the
first, and writes to two addresses may be exchanged. The form is the model's own (log 6). That memory is a function
of the address alone is decision D7 (log 27). [derived: 20_memory.md section 1, 20_memory.md R59] -/
def Obligations.MemoryIsItsContents : Prop :=
  (∀ m k : Memory, m.wf = true → k.wf = true → (∀ a, m.read a = k.read a) → m = k) ∧
  (∀ (m : Memory) (a b : Nat) (v w : Byte), m.wf = true → a < 2 ^ 64 → b < 2 ^ 64 →
    Memory.write m a (m.read a) = m ∧
    Memory.write (Memory.write m a v) a w = Memory.write m a w ∧
    (a ≠ b → Memory.write (Memory.write m a v) b w = Memory.write (Memory.write m b w) a v))

/-- Available, each of the three writes to rd the sign-extended word of the absolute values of the elements of rt
saturated to their width, sets flag 20 exactly where an element is the minimum value, and moves to the next
instruction; nothing else changes. Which elements of rt are taken, and their places in rd, R105 to R107 say.
[stated: R101] -/
def Obligations.AbsoluteValueResults : Prop :=
  ∀ (rd rt : Reg) (s : State),
    (Available (.absqSPh rd rt) s → exec (.absqSPh rd rt) s =
      .next (s.setWordFlag rd 20 (mapPHFlag (fun a => saturateSigned 16 |a.toInt|) (s.word rt))).advance) ∧
    (Available (.absqSQb rd rt) s → exec (.absqSQb rd rt) s =
      .next (s.setWordFlag rd 20 (mapQBFlag (fun a => saturateSigned 8 |a.toInt|) (s.word rt))).advance) ∧
    (Available (.absqSW rd rt) s → exec (.absqSW rd rt) s =
      .next (s.setWordFlag rd 20 (saturateSigned 32 |(s.word rt).toInt|)).advance)

/-- Available, each of the six writes to rd the element-wise signed sum or difference of rs and rt, modulo 2^N or
saturated to N bits, sign-extended, and sets flag 20 exactly where some exact result does not fit in N bits. Which
elements are taken, and their places in rd, R108 to R110 and R125 to R127 say. [stated: R102] -/
def Obligations.SignedAddSubtractResults : Prop :=
  ∀ (rd rs rt : Reg) (s : State),
    (Available (.addqPh rd rs rt) s → exec (.addqPh rd rs rt) s =
      .next (s.setWordFlag rd 20
        (zipPHFlag (fun a b => wrapSigned 16 (a.toInt + b.toInt)) (s.word rs) (s.word rt))).advance) ∧
    (Available (.addqSPh rd rs rt) s → exec (.addqSPh rd rs rt) s =
      .next (s.setWordFlag rd 20
        (zipPHFlag (fun a b => saturateSigned 16 (a.toInt + b.toInt)) (s.word rs) (s.word rt))).advance) ∧
    (Available (.subqPh rd rs rt) s → exec (.subqPh rd rs rt) s =
      .next (s.setWordFlag rd 20
        (zipPHFlag (fun a b => wrapSigned 16 (a.toInt - b.toInt)) (s.word rs) (s.word rt))).advance) ∧
    (Available (.subqSPh rd rs rt) s → exec (.subqSPh rd rs rt) s =
      .next (s.setWordFlag rd 20
        (zipPHFlag (fun a b => saturateSigned 16 (a.toInt - b.toInt)) (s.word rs) (s.word rt))).advance) ∧
    (Available (.addqSW rd rs rt) s → exec (.addqSW rd rs rt) s =
      .next (s.setWordFlag rd 20 (saturateSigned 32 ((s.word rs).toInt + (s.word rt).toInt))).advance) ∧
    (Available (.subqSW rd rs rt) s → exec (.subqSW rd rs rt) s =
      .next (s.setWordFlag rd 20 (saturateSigned 32 ((s.word rs).toInt - (s.word rt).toInt))).advance)

/-- Available, each of the eight writes to rd the element-wise unsigned sum or difference of rs and rt, modulo 2^N
or clamped to all ones or to zero, sign-extended as a word, and sets flag 20 exactly on a carry or a borrow of some
element. For SUBU.PH and SUBU_S.PH the order rs minus rt is a choice: the Operation of their page computes rt minus
rs, and the spec resolves the conflict for rs minus rt (C8, R134, R135), which it calls its least certain
resolution; the model follows it (log 19, DEDUCED, unsafe). The helpers of ADDU.PH and ADDU_S.PH, which their page
calls and does not define, are reconstructed by the spec (C5), and the sign extension of ADDU.QB corrects its page
(C7; both log 19). [derived: R103, R117, R118, R119, R120, R132, R133, R134, R135, 90_conflicts.md C8] -/
def Obligations.UnsignedAddSubtractResults : Prop :=
  ∀ (rd rs rt : Reg) (s : State),
    (Available (.adduQb rd rs rt) s → exec (.adduQb rd rs rt) s =
      .next (s.setWordFlag rd 20
        (zipQBFlag (fun a b => wrapUnsigned 8 (uint a + uint b)) (s.word rs) (s.word rt))).advance) ∧
    (Available (.adduSQb rd rs rt) s → exec (.adduSQb rd rs rt) s =
      .next (s.setWordFlag rd 20
        (zipQBFlag (fun a b => saturateUnsigned 8 (uint a + uint b)) (s.word rs) (s.word rt))).advance) ∧
    (Available (.subuQb rd rs rt) s → exec (.subuQb rd rs rt) s =
      .next (s.setWordFlag rd 20
        (zipQBFlag (fun a b => wrapUnsigned 8 (uint a - uint b)) (s.word rs) (s.word rt))).advance) ∧
    (Available (.subuSQb rd rs rt) s → exec (.subuSQb rd rs rt) s =
      .next (s.setWordFlag rd 20
        (zipQBFlag (fun a b => saturateUnsigned 8 (uint a - uint b)) (s.word rs) (s.word rt))).advance) ∧
    (Available (.adduPh rd rs rt) s → exec (.adduPh rd rs rt) s =
      .next (s.setWordFlag rd 20
        (zipPHFlag (fun a b => wrapUnsigned 16 (uint a + uint b)) (s.word rs) (s.word rt))).advance) ∧
    (Available (.adduSPh rd rs rt) s → exec (.adduSPh rd rs rt) s =
      .next (s.setWordFlag rd 20
        (zipPHFlag (fun a b => saturateUnsigned 16 (uint a + uint b)) (s.word rs) (s.word rt))).advance) ∧
    (Available (.subuPh rd rs rt) s → exec (.subuPh rd rs rt) s =
      .next (s.setWordFlag rd 20
        (zipPHFlag (fun a b => wrapUnsigned 16 (uint a - uint b)) (s.word rs) (s.word rt))).advance) ∧
    (Available (.subuSPh rd rs rt) s → exec (.subuSPh rd rs rt) s =
      .next (s.setWordFlag rd 20
        (zipPHFlag (fun a b => saturateUnsigned 16 (uint a - uint b)) (s.word rs) (s.word rt))).advance)

/-- Available, each of the twelve writes to rd, sign-extended, the element-wise exact sum or difference of rs and
rt, plus 1 in the rounding forms, divided by 2 rounding down and taken modulo 2^N; no flag is written. That the word
forms ADDQH, SUBQH and their rounding forms extend bit 31 of their own result is the spec's resolution C6 of a
misprinted line (log 19). [derived: R104, R111, R112, R113, R114, R121, R122, R128, R129, R130, R131, R136, R137,
90_conflicts.md C6] -/
def Obligations.HalvingResults : Prop :=
  ∀ (rd rs rt : Reg) (s : State),
    (Available (.addqhPh rd rs rt) s → exec (.addqhPh rd rs rt) s =
      .next (s.setWord rd (zipPH (fun a b => BitVec.ofInt 16 ((a.toInt + b.toInt) / 2)) (s.word rs) (s.word rt))).advance) ∧
    (Available (.addqhRPh rd rs rt) s → exec (.addqhRPh rd rs rt) s =
      .next (s.setWord rd (zipPH (fun a b => BitVec.ofInt 16 ((a.toInt + b.toInt + 1) / 2)) (s.word rs) (s.word rt))).advance) ∧
    (Available (.subqhPh rd rs rt) s → exec (.subqhPh rd rs rt) s =
      .next (s.setWord rd (zipPH (fun a b => BitVec.ofInt 16 ((a.toInt - b.toInt) / 2)) (s.word rs) (s.word rt))).advance) ∧
    (Available (.subqhRPh rd rs rt) s → exec (.subqhRPh rd rs rt) s =
      .next (s.setWord rd (zipPH (fun a b => BitVec.ofInt 16 ((a.toInt - b.toInt + 1) / 2)) (s.word rs) (s.word rt))).advance) ∧
    (Available (.addqhW rd rs rt) s → exec (.addqhW rd rs rt) s =
      .next (s.setWord rd (BitVec.ofInt 32 (((s.word rs).toInt + (s.word rt).toInt) / 2))).advance) ∧
    (Available (.addqhRW rd rs rt) s → exec (.addqhRW rd rs rt) s =
      .next (s.setWord rd (BitVec.ofInt 32 (((s.word rs).toInt + (s.word rt).toInt + 1) / 2))).advance) ∧
    (Available (.subqhW rd rs rt) s → exec (.subqhW rd rs rt) s =
      .next (s.setWord rd (BitVec.ofInt 32 (((s.word rs).toInt - (s.word rt).toInt) / 2))).advance) ∧
    (Available (.subqhRW rd rs rt) s → exec (.subqhRW rd rs rt) s =
      .next (s.setWord rd (BitVec.ofInt 32 (((s.word rs).toInt - (s.word rt).toInt + 1) / 2))).advance) ∧
    (Available (.adduhQb rd rs rt) s → exec (.adduhQb rd rs rt) s =
      .next (s.setWord rd (zipQB (fun a b => BitVec.ofInt 8 ((uint a + uint b) / 2)) (s.word rs) (s.word rt))).advance) ∧
    (Available (.adduhRQb rd rs rt) s → exec (.adduhRQb rd rs rt) s =
      .next (s.setWord rd (zipQB (fun a b => BitVec.ofInt 8 ((uint a + uint b + 1) / 2)) (s.word rs) (s.word rt))).advance) ∧
    (Available (.subuhQb rd rs rt) s → exec (.subuhQb rd rs rt) s =
      .next (s.setWord rd (zipQB (fun a b => BitVec.ofInt 8 ((uint a - uint b) / 2)) (s.word rs) (s.word rt))).advance) ∧
    (Available (.subuhRQb rd rs rt) s → exec (.subuhRQb rd rs rt) s =
      .next (s.setWord rd (zipQB (fun a b => BitVec.ofInt 8 ((uint a - uint b + 1) / 2)) (s.word rs) (s.word rt))).advance)

/-- Available: ADDSC writes the sum of the low words modulo 2^32 and the carry, 0 or 1, into c; ADDWC adds c to the
signed sum, wraps, and sets flag 20 when it does not fit; MODSUB subtracts the low byte of rt from rs, or reloads
bits 23..8 of rt where the low word of rs is zero; RADDU.W.QB writes the sum of the four bytes. That MODSUB tests
the low word of rs alone is R123's choice of the Operation over a looser Description (log 19). [derived: R115, R116,
R123, R124, R35] -/
def Obligations.CarryAndReductionResults : Prop :=
  ∀ (rd rs rt : Reg) (s : State),
    (Available (.addsc rd rs rt) s → exec (.addsc rd rs rt) s =
      .next ((s.setCarry (BitVec.ofNat 1 (((s.word rs).toNat + (s.word rt).toNat) / 2 ^ 32))).setWord rd
        (BitVec.ofNat 32 ((s.word rs).toNat + (s.word rt).toNat))).advance) ∧
    (Available (.addwc rd rs rt) s → exec (.addwc rd rs rt) s =
      .next (s.setWordFlag rd 20
        (wrapSigned 32 ((s.word rs).toInt + (s.word rt).toInt + uint (s.dspControl.extractLsb' 13 1)))).advance) ∧
    (Available (.modsub rd rs rt) s → exec (.modsub rd rs rt) s =
      .next (s.setGpr rd (if (s.gpr rs).toNat % 2 ^ 32 = 0 then BitVec.ofNat 64 ((s.gpr rt).toNat / 2 ^ 8 % 2 ^ 16)
        else BitVec.ofInt 64 ((s.gpr rs).toInt - (s.gpr rt).toNat % 2 ^ 8))).advance) ∧
    (Available (.radduWQb rd rs) s → exec (.radduWQb rd rs) s =
      .next (s.setGpr rd (BitVec.ofNat 64 ((byteD (s.word rs)).toNat + (byteC (s.word rs)).toNat +
        (byteB (s.word rs)).toNat + (byteA (s.word rs)).toNat))).advance)

/-- Available and with the amount in its field: APPEND shifts the low word of rt left by sa and fills with the low
sa bits of rs; PREPEND shifts it right and puts those bits on top; BALIGN with bp 1 or 3 does so by bytes with the
high bytes of rs; with bp 0 or 2 some value is left in rt and nothing else differs. That BALIGN joins its two
shifted words by OR is the spec's resolution C14 (log 19); that an UNPREDICTABLE value stays in rt is log 22.
[derived: R160, R161, R164, 41_bit_pack_precision.md] -/
def Obligations.SpliceResults : Prop :=
  ∀ (rt rs : Reg) (sa : Nat) (s : State),
    (sa < 32 → Available (.append rt rs sa) s → exec (.append rt rs sa) s =
      .next (s.setWord rt (BitVec.ofNat 32 ((s.word rt).toNat * 2 ^ sa + (s.word rs).toNat % 2 ^ sa))).advance) ∧
    (sa < 32 → Available (.prepend rt rs sa) s → exec (.prepend rt rs sa) s =
      .next (s.setWord rt
        (BitVec.ofNat 32 ((s.word rs).toNat % 2 ^ sa * 2 ^ (32 - sa) + (s.word rt).toNat / 2 ^ sa))).advance) ∧
    (sa = 1 ∨ sa = 3 → Available (.balign rt rs sa) s → exec (.balign rt rs sa) s =
      .next (s.setWord rt
        (BitVec.ofNat 32 ((s.word rt).toNat * 2 ^ (8 * sa) + (s.word rs).toNat / 2 ^ (32 - 8 * sa)))).advance) ∧
    (sa = 0 ∨ sa = 2 → Available (.balign rt rs sa) s → ∃ v : DWord, exec (.balign rt rs sa) s =
      .next ((s.setGpr rt v).drawn 1).advance)

/-- Available, with word operands and 0 < size, pos + size <= 32 (pos the low six bits of the pos field, size the
scount field), INSV replaces bits pos to pos+size-1 of rt by the low bits of rs and fills bits 63..32 with the old
bit 31 of rt; in every other case some value is left in rt and nothing else differs. That the UNPREDICTABLE outcome
stays in rt is the reading of R166 (U2, log 22), that bits 63..32 are copies of the old bit 31 is the Operation as
written (V7), and the test of a sign-extended word is R7's, from general knowledge (PRESUMED, log 28). [derived:
R166, 93_implementation_defined.md] -/
def Obligations.InsertResults : Prop :=
  ∀ (rt rs : Reg) (s : State) (pos size : Nat), Available (.insv rt rs) s →
    pos = s.dspControl.toNat % 2 ^ 6 → size = s.dspControl.toNat / 2 ^ 7 % 2 ^ 6 →
    (0 < size ∧ pos + size ≤ 32 ∧ s.gpr rs = BitVec.ofInt 64 (s.word rs).toInt ∧
        s.gpr rt = BitVec.ofInt 64 (s.word rt).toInt →
      ∃ v : DWord, exec (.insv rt rs) s = .next (s.setGpr rt v).advance ∧
        ∀ n, n < 64 → v.getLsbD n =
          if 32 ≤ n then (s.word rt).getLsbD 31
          else if pos ≤ n ∧ n < pos + size then (s.word rs).getLsbD (n - pos) else (s.word rt).getLsbD n) ∧
    (¬ (0 < size ∧ pos + size ≤ 32 ∧ s.gpr rs = BitVec.ofInt 64 (s.word rs).toInt ∧
        s.gpr rt = BitVec.ofInt 64 (s.word rt).toInt) →
      ∃ v : DWord, exec (.insv rt rs) s = .next ((s.setGpr rt v).drawn 1).advance)

/-- Available: BITREV writes the low halfword of rt reversed, zero-extended; PACKRL.PH joins the right half of rs
and the left half of rt; PRECEQ puts a halfword in the left half; the PRECEQU forms write bytes times 2^7, the
PRECEU forms bytes, as halfwords, from the two left, two right or alternate bytes. The replication count of
PRECEQU.PH.QBR and the two halfwords of PRECEU.PH.QBLA are the spec's resolutions C10 and C16 (log 19). [derived:
R162, R163, R167, R168, R169, R170, R171, R172, R173, R174, R175, R176] -/
def Obligations.ExpandResults : Prop :=
  (∀ (rd rt : Reg) (s : State), Available (.bitrev rd rt) s → ∃ v : DWord, exec (.bitrev rd rt) s =
      .next (s.setGpr rd v).advance ∧ ∀ n, v.getLsbD n = (decide (n < 16) && (s.gpr rt).getLsbD (15 - n))) ∧
  ∀ (rd rs rt : Reg) (s : State),
    (Available (.packrlPh rd rs rt) s → exec (.packrlPh rd rs rt) s =
      .next (s.setWord rd (BitVec.ofNat 32 ((s.word rs).toNat * 2 ^ 16 + (s.word rt).toNat / 2 ^ 16))).advance) ∧
    (Available (.preceqWPhl rd rt) s → exec (.preceqWPhl rd rt) s =
      .next (s.setWord rd (BitVec.ofNat 32 ((halfB (s.word rt)).toNat * 2 ^ 16))).advance) ∧
    (Available (.preceqWPhr rd rt) s → exec (.preceqWPhr rd rt) s =
      .next (s.setWord rd (BitVec.ofNat 32 ((halfA (s.word rt)).toNat * 2 ^ 16))).advance) ∧
    (Available (.precequPhQbl rd rt) s → exec (.precequPhQbl rd rt) s =
      .next (s.setWord rd (packPH (BitVec.ofNat 16 ((byteD (s.word rt)).toNat * 2 ^ 7))
        (BitVec.ofNat 16 ((byteC (s.word rt)).toNat * 2 ^ 7)))).advance) ∧
    (Available (.precequPhQbr rd rt) s → exec (.precequPhQbr rd rt) s =
      .next (s.setWord rd (packPH (BitVec.ofNat 16 ((byteB (s.word rt)).toNat * 2 ^ 7))
        (BitVec.ofNat 16 ((byteA (s.word rt)).toNat * 2 ^ 7)))).advance) ∧
    (Available (.precequPhQbla rd rt) s → exec (.precequPhQbla rd rt) s =
      .next (s.setWord rd (packPH (BitVec.ofNat 16 ((byteD (s.word rt)).toNat * 2 ^ 7))
        (BitVec.ofNat 16 ((byteB (s.word rt)).toNat * 2 ^ 7)))).advance) ∧
    (Available (.precequPhQbra rd rt) s → exec (.precequPhQbra rd rt) s =
      .next (s.setWord rd (packPH (BitVec.ofNat 16 ((byteC (s.word rt)).toNat * 2 ^ 7))
        (BitVec.ofNat 16 ((byteA (s.word rt)).toNat * 2 ^ 7)))).advance) ∧
    (Available (.preceuPhQbl rd rt) s → exec (.preceuPhQbl rd rt) s =
      .next (s.setWord rd (packPH (BitVec.ofNat 16 (byteD (s.word rt)).toNat)
        (BitVec.ofNat 16 (byteC (s.word rt)).toNat))).advance) ∧
    (Available (.preceuPhQbr rd rt) s → exec (.preceuPhQbr rd rt) s =
      .next (s.setWord rd (packPH (BitVec.ofNat 16 (byteB (s.word rt)).toNat)
        (BitVec.ofNat 16 (byteA (s.word rt)).toNat))).advance) ∧
    (Available (.preceuPhQbla rd rt) s → exec (.preceuPhQbla rd rt) s =
      .next (s.setWord rd (packPH (BitVec.ofNat 16 (byteD (s.word rt)).toNat)
        (BitVec.ofNat 16 (byteB (s.word rt)).toNat))).advance) ∧
    (Available (.preceuPhQbra rd rt) s → exec (.preceuPhQbra rd rt) s =
      .next (s.setWord rd (packPH (BitVec.ofNat 16 (byteC (s.word rt)).toNat)
        (BitVec.ofNat 16 (byteA (s.word rt)).toNat))).advance)

/-- Available: PRECR.QB.PH keeps the low byte of each halfword, PRECRQ.QB.PH the high byte, PRECRQ.PH.W the high
half of each word (rs left, rt right); REPLV copies the low halfword or byte of rt, REPL the signed 10-bit or the
8-bit immediate, into every element. The operand order of PRECRQ.PH.W and the upper half of REPL.PH and REPLV.PH are
the spec's resolutions C9 and C12 (log 19). [derived: R177, R178, R179, R184, R185, R186, R187] -/
def Obligations.NarrowAndReplicateResults : Prop :=
  ∀ (rd rs rt : Reg) (s : State),
    (Available (.precrQbPh rd rs rt) s → exec (.precrQbPh rd rs rt) s =
      .next (s.setWord rd (packQB (BitVec.ofNat 8 (halfB (s.word rs)).toNat)
        (BitVec.ofNat 8 (halfA (s.word rs)).toNat) (BitVec.ofNat 8 (halfB (s.word rt)).toNat)
        (BitVec.ofNat 8 (halfA (s.word rt)).toNat))).advance) ∧
    (Available (.precrqQbPh rd rs rt) s → exec (.precrqQbPh rd rs rt) s =
      .next (s.setWord rd (packQB (BitVec.ofNat 8 ((halfB (s.word rs)).toNat / 2 ^ 8))
        (BitVec.ofNat 8 ((halfA (s.word rs)).toNat / 2 ^ 8)) (BitVec.ofNat 8 ((halfB (s.word rt)).toNat / 2 ^ 8))
        (BitVec.ofNat 8 ((halfA (s.word rt)).toNat / 2 ^ 8)))).advance) ∧
    (Available (.precrqPhW rd rs rt) s → exec (.precrqPhW rd rs rt) s =
      .next (s.setWord rd (BitVec.ofNat 32 ((s.word rs).toNat / 2 ^ 16 * 2 ^ 16 + (s.word rt).toNat / 2 ^ 16))).advance) ∧
    (Available (.replvPh rd rt) s → exec (.replvPh rd rt) s =
      .next (s.setWord rd (BitVec.ofNat 32 ((s.word rt).toNat % 2 ^ 16 * (2 ^ 16 + 1)))).advance) ∧
    (Available (.replvQb rd rt) s → exec (.replvQb rd rt) s =
      .next (s.setWord rd (BitVec.ofNat 32 ((s.word rt).toNat % 2 ^ 8 * (2 ^ 24 + 2 ^ 16 + 2 ^ 8 + 1)))).advance) ∧
    (∀ imm : BitVec 10, Available (.replPh rd imm) s → exec (.replPh rd imm) s =
      .next (s.setWord rd (packPH (BitVec.ofInt 16 imm.toInt) (BitVec.ofInt 16 imm.toInt))).advance) ∧
    (∀ imm : BitVec 8, Available (.replQb rd imm) s → exec (.replQb rd imm) s =
      .next (s.setWord rd (BitVec.ofNat 32 (imm.toNat * (2 ^ 24 + 2 ^ 16 + 2 ^ 8 + 1)))).advance)

/-- Available: PRECRQ_RS.PH.W rounds each word to its high half, clamped to 0x7FFF with flag 22; PRECRQU_S.QB.PH
takes each halfword divided by 2^7, a negative one to 0 and one above 0x7F80 to 255 with flag 22; PRECR_SRA shifts
each word right by sa, the _R form rounding, and keeps the low half, rt giving the left and rs the right one. That
PRECR_SRA and PRECR_SRA_R keep the low 16 bits, and the width at which the latter rounds, are the spec's resolution
C11 (log 19). [derived: R180, R181, R182, R183] -/
def Obligations.PrecisionReductionResults : Prop :=
  ∀ (rd rs rt : Reg) (s : State),
    (Available (.precrqRsPhW rd rs rt) s → exec (.precrqRsPhW rd rs rt) s =
      .next (s.setWordFlag rd 22 (joinPH (saturateSigned 16 (roundDiv (s.word rs).toInt 16))
        (saturateSigned 16 (roundDiv (s.word rt).toInt 16)))).advance) ∧
    (Available (.precrquSQbPh rd rs rt) s → exec (.precrquSQbPh rd rs rt) s =
      .next (s.setWordFlag rd 22 (joinQB
        (BitVec.ofInt 8 (clampUnsigned 8 ((halfB (s.word rs)).toInt / 2 ^ 7)),
          decide ((halfB (s.word rs)).toInt < 0 ∨ 0x7F80 < (halfB (s.word rs)).toInt))
        (BitVec.ofInt 8 (clampUnsigned 8 ((halfA (s.word rs)).toInt / 2 ^ 7)),
          decide ((halfA (s.word rs)).toInt < 0 ∨ 0x7F80 < (halfA (s.word rs)).toInt))
        (BitVec.ofInt 8 (clampUnsigned 8 ((halfB (s.word rt)).toInt / 2 ^ 7)),
          decide ((halfB (s.word rt)).toInt < 0 ∨ 0x7F80 < (halfB (s.word rt)).toInt))
        (BitVec.ofInt 8 (clampUnsigned 8 ((halfA (s.word rt)).toInt / 2 ^ 7)),
          decide ((halfA (s.word rt)).toInt < 0 ∨ 0x7F80 < (halfA (s.word rt)).toInt)))).advance) ∧
    (∀ sa, sa < 32 → Available (.precrSraPhW rt rs sa) s → exec (.precrSraPhW rt rs sa) s =
      .next (s.setWord rt (packPH (BitVec.ofInt 16 ((s.word rt).toInt / 2 ^ sa))
        (BitVec.ofInt 16 ((s.word rs).toInt / 2 ^ sa)))).advance) ∧
    (∀ sa, sa < 32 → Available (.precrSraRPhW rt rs sa) s → exec (.precrSraRPhW rt rs sa) s =
      .next (s.setWord rt (packPH (BitVec.ofInt 16 (roundDiv (s.word rt).toInt sa))
        (BitVec.ofInt 16 (roundDiv (s.word rs).toInt sa)))).advance)

/-- Available and in no slot: BPOSGE32 goes on at pc + 4 in the delay slot, with the latch holding pc + 4 + 4 *
offset where pos >= 32 and empty otherwise; BPOSGE32C goes to that target at once where pos >= 32, else to pc + 4 in
the forbidden slot. All address arithmetic is modulo 2^64; all seven bits of pos count; nothing else changes. That
BPOSGE32C branches at once and has no delay slot is the spec's resolution C17 against the Operation of its page, a
copy of the delayed branch, and the width of the offset its resolution C1 (both log 19); that sums wrap is decision
D5 (log 27), and that an untaken branch goes on at pc + 4 PRESUMED (R24, log 28); the slot is held as log 10 says.
[derived: R202, R204, R24, R32, 90_conflicts.md C17] -/
def Obligations.BranchResults : Prop :=
  ∀ (offset : BitVec 16) (s : State), s.slot = .none →
    (Available (.bposge32 offset) s → exec (.bposge32 offset) s =
      .next { s with
        pc := s.pc + 4#64
        slot := .delay
        delayed :=
          if 32 ≤ s.dspControl.toNat % 2 ^ 7 then some (BitVec.ofInt 64 (s.pc.toInt + 4 + 4 * offset.toInt)) else none }) ∧
    (Available (.bposge32c offset) s → exec (.bposge32c offset) s =
      .next { s with
        pc := if 32 ≤ s.dspControl.toNat % 2 ^ 7 then BitVec.ofInt 64 (s.pc.toInt + 4 + 4 * offset.toInt)
          else s.pc + 4#64
        slot := if 32 ≤ s.dspControl.toNat % 2 ^ 7 then .none else .forbidden
        delayed := none })

/-- Available: CMP.EQ/LT/LE.PH write the signed comparison of each halfword to ccond bits 25, 24; CMPU.cond.QB the
unsigned comparison of each byte to bits 27..24; CMPGU.cond.QB to bits 3..0 of rd, zero-extended; CMPGDU.cond.QB to
both. The remaining ccond bits take some values; nothing else changes. The meaning of EQ, LT and LE, which the
source never defines, R201 takes from the prose of the pages (N17, log 27); that the remaining ccond bits are
UNPREDICTABLE on every execution, and that nothing else changes, is the reading of U3 (log 22). [derived: R201,
R206, R207, R208, R209, R210, R211, R212, R213, R214, R215, R216, R217, 93_implementation_defined.md U3] -/
def Obligations.CompareResults : Prop :=
  ∀ (rd rs rt : Reg) (s : State),
    (Available (.cmpEqPh rs rt) s → ∃ free : BitVec 6, exec (.cmpEqPh rs rt) s =
      .next ((s.setCcond (free ++ comparePH (fun a b => decide (a.toInt = b.toInt)) (s.word rs) (s.word rt))).drawn 1).advance) ∧
    (Available (.cmpLtPh rs rt) s → ∃ free : BitVec 6, exec (.cmpLtPh rs rt) s =
      .next ((s.setCcond (free ++ comparePH (fun a b => decide (a.toInt < b.toInt)) (s.word rs) (s.word rt))).drawn 1).advance) ∧
    (Available (.cmpLePh rs rt) s → ∃ free : BitVec 6, exec (.cmpLePh rs rt) s =
      .next ((s.setCcond (free ++ comparePH (fun a b => decide (a.toInt ≤ b.toInt)) (s.word rs) (s.word rt))).drawn 1).advance) ∧
    (Available (.cmpuEqQb rs rt) s → ∃ free : BitVec 4, exec (.cmpuEqQb rs rt) s =
      .next ((s.setCcond (free ++ compareQB (fun a b => decide (a.toNat = b.toNat)) (s.word rs) (s.word rt))).drawn 1).advance) ∧
    (Available (.cmpuLtQb rs rt) s → ∃ free : BitVec 4, exec (.cmpuLtQb rs rt) s =
      .next ((s.setCcond (free ++ compareQB (fun a b => decide (a.toNat < b.toNat)) (s.word rs) (s.word rt))).drawn 1).advance) ∧
    (Available (.cmpuLeQb rs rt) s → ∃ free : BitVec 4, exec (.cmpuLeQb rs rt) s =
      .next ((s.setCcond (free ++ compareQB (fun a b => decide (a.toNat ≤ b.toNat)) (s.word rs) (s.word rt))).drawn 1).advance) ∧
    (Available (.cmpguEqQb rd rs rt) s → exec (.cmpguEqQb rd rs rt) s =
      .next (s.setGpr rd
        (BitVec.ofNat 64 (compareQB (fun a b => decide (a.toNat = b.toNat)) (s.word rs) (s.word rt)).toNat)).advance) ∧
    (Available (.cmpguLtQb rd rs rt) s → exec (.cmpguLtQb rd rs rt) s =
      .next (s.setGpr rd
        (BitVec.ofNat 64 (compareQB (fun a b => decide (a.toNat < b.toNat)) (s.word rs) (s.word rt)).toNat)).advance) ∧
    (Available (.cmpguLeQb rd rs rt) s → exec (.cmpguLeQb rd rs rt) s =
      .next (s.setGpr rd
        (BitVec.ofNat 64 (compareQB (fun a b => decide (a.toNat ≤ b.toNat)) (s.word rs) (s.word rt)).toNat)).advance) ∧
    (Available (.cmpgduEqQb rd rs rt) s → ∃ free : BitVec 4, exec (.cmpgduEqQb rd rs rt) s =
      .next (((s.setCcond (free ++ compareQB (fun a b => decide (a.toNat = b.toNat)) (s.word rs) (s.word rt))).drawn 1).setGpr rd
        (BitVec.ofNat 64 (compareQB (fun a b => decide (a.toNat = b.toNat)) (s.word rs) (s.word rt)).toNat)).advance) ∧
    (Available (.cmpgduLtQb rd rs rt) s → ∃ free : BitVec 4, exec (.cmpgduLtQb rd rs rt) s =
      .next (((s.setCcond (free ++ compareQB (fun a b => decide (a.toNat < b.toNat)) (s.word rs) (s.word rt))).drawn 1).setGpr rd
        (BitVec.ofNat 64 (compareQB (fun a b => decide (a.toNat < b.toNat)) (s.word rs) (s.word rt)).toNat)).advance) ∧
    (Available (.cmpgduLeQb rd rs rt) s → ∃ free : BitVec 4, exec (.cmpgduLeQb rd rs rt) s =
      .next (((s.setCcond (free ++ compareQB (fun a b => decide (a.toNat ≤ b.toNat)) (s.word rs) (s.word rt))).drawn 1).setGpr rd
        (BitVec.ofNat 64 (compareQB (fun a b => decide (a.toNat ≤ b.toNat)) (s.word rs) (s.word rt)).toNat)).advance) ∧
    (∀ f : Half → Half → Bool, comparePH f (s.word rs) (s.word rt) =
      BitVec.ofNat 2 (2 * (f (halfB (s.word rs)) (halfB (s.word rt))).toNat +
        (f (halfA (s.word rs)) (halfA (s.word rt))).toNat)) ∧
    (∀ f : Byte → Byte → Bool, compareQB f (s.word rs) (s.word rt) =
      BitVec.ofNat 4 (8 * (f (byteD (s.word rs)) (byteD (s.word rt))).toNat +
        4 * (f (byteC (s.word rs)) (byteC (s.word rt))).toNat + 2 * (f (byteB (s.word rs)) (byteB (s.word rt))).toNat +
        (f (byteA (s.word rs)) (byteA (s.word rt))).toNat))

/-- Available: PICK.PH takes the left and right halfword from rs where bit 25 or 24 of DSPControl is 1 and from rt
otherwise; PICK.QB takes bytes D to A by bits 27 to 24. The word is sign-extended into rd; DSPControl is not
changed. [derived: R218, R219, R34] -/
def Obligations.PickResults : Prop :=
  ∀ (rd rs rt : Reg) (s : State),
    (Available (.pickPh rd rs rt) s → exec (.pickPh rd rs rt) s =
      .next (s.setWord rd (packPH
        (halfB (s.word (if s.dspControl.getLsbD 25 then rs else rt)))
        (halfA (s.word (if s.dspControl.getLsbD 24 then rs else rt))))).advance) ∧
    (Available (.pickQb rd rs rt) s → exec (.pickQb rd rs rt) s =
      .next (s.setWord rd (packQB
        (byteD (s.word (if s.dspControl.getLsbD 27 then rs else rt)))
        (byteC (s.word (if s.dspControl.getLsbD 26 then rs else rt)))
        (byteB (s.word (if s.dspControl.getLsbD 25 then rs else rt)))
        (byteA (s.word (if s.dspControl.getLsbD 24 then rs else rt))))).advance)

/-- Available, each of the nine adds to or subtracts from the accumulator the exact sum of its two element products
(for MULSA.W.PH the left product minus the right one), signed halfwords straight or crossed, or unsigned bytes of
the left or right half, modulo 2^64; no flag is written. That DPAU.H.QBR multiplies the bytes of rs by those of rt
is the spec's resolution C22: the Operation of its page multiplies rs by rs (log 19). [derived: R236, R237, R238,
R239, R240, R241, R242, R243, R252, R230, 90_conflicts.md C22] -/
def Obligations.IntegerDotProductResults : Prop :=
  ∀ (ac : Acc) (rs rt : Reg) (s : State),
    (Available (.dpaWPh ac rs rt) s → exec (.dpaWPh ac rs rt) s =
      .next (s.setAcc ac (BitVec.ofInt 64 ((s.acc ac).toInt +
        ((halfB (s.word rs)).toInt * (halfB (s.word rt)).toInt + (halfA (s.word rs)).toInt * (halfA (s.word rt)).toInt)))).advance) ∧
    (Available (.dpsWPh ac rs rt) s → exec (.dpsWPh ac rs rt) s =
      .next (s.setAcc ac (BitVec.ofInt 64 ((s.acc ac).toInt -
        ((halfB (s.word rs)).toInt * (halfB (s.word rt)).toInt + (halfA (s.word rs)).toInt * (halfA (s.word rt)).toInt)))).advance) ∧
    (Available (.mulsaWPh ac rs rt) s → exec (.mulsaWPh ac rs rt) s =
      .next (s.setAcc ac (BitVec.ofInt 64 ((s.acc ac).toInt +
        ((halfB (s.word rs)).toInt * (halfB (s.word rt)).toInt - (halfA (s.word rs)).toInt * (halfA (s.word rt)).toInt)))).advance) ∧
    (Available (.dpaxWPh ac rs rt) s → exec (.dpaxWPh ac rs rt) s =
      .next (s.setAcc ac (BitVec.ofInt 64 ((s.acc ac).toInt +
        ((halfB (s.word rs)).toInt * (halfA (s.word rt)).toInt + (halfA (s.word rs)).toInt * (halfB (s.word rt)).toInt)))).advance) ∧
    (Available (.dpsxWPh ac rs rt) s → exec (.dpsxWPh ac rs rt) s =
      .next (s.setAcc ac (BitVec.ofInt 64 ((s.acc ac).toInt -
        ((halfB (s.word rs)).toInt * (halfA (s.word rt)).toInt + (halfA (s.word rs)).toInt * (halfB (s.word rt)).toInt)))).advance) ∧
    (Available (.dpauHQbl ac rs rt) s → exec (.dpauHQbl ac rs rt) s =
      .next (s.setAcc ac (BitVec.ofInt 64 ((s.acc ac).toInt +
        (uint (byteD (s.word rs)) * uint (byteD (s.word rt)) + uint (byteC (s.word rs)) * uint (byteC (s.word rt)))))).advance) ∧
    (Available (.dpauHQbr ac rs rt) s → exec (.dpauHQbr ac rs rt) s =
      .next (s.setAcc ac (BitVec.ofInt 64 ((s.acc ac).toInt +
        (uint (byteB (s.word rs)) * uint (byteB (s.word rt)) + uint (byteA (s.word rs)) * uint (byteA (s.word rt)))))).advance) ∧
    (Available (.dpsuHQbl ac rs rt) s → exec (.dpsuHQbl ac rs rt) s =
      .next (s.setAcc ac (BitVec.ofInt 64 ((s.acc ac).toInt -
        (uint (byteD (s.word rs)) * uint (byteD (s.word rt)) + uint (byteC (s.word rs)) * uint (byteC (s.word rt)))))).advance) ∧
    (Available (.dpsuHQbr ac rs rt) s → exec (.dpsuHQbr ac rs rt) s =
      .next (s.setAcc ac (BitVec.ofInt 64 ((s.acc ac).toInt -
        (uint (byteB (s.word rs)) * uint (byteB (s.word rt)) + uint (byteA (s.word rs)) * uint (byteA (s.word rt)))))).advance)

/-- Available, each of the seven adds to or subtracts from the accumulator, modulo 2^64, twice its halfword
products, each clamped to 32 signed bits (only -1.0 times -1.0 has to be), and sets flag 16 + ac exactly when a
product was clamped. That the products are signed, where the helper of the page does not say so, is R231's inference
(N12, log 27). [derived: R231, R244, R245, R246, R247, R253, R258, R259, R33] -/
def Obligations.FractionalDotProductResults : Prop :=
  ∀ (ac : Acc) (rs rt : Reg) (s : State),
    (Available (.dpaqSWPh ac rs rt) s → exec (.dpaqSWPh ac rs rt) s =
      .next (s.setAccFlag ac (BitVec.ofInt 64 ((s.acc ac).toInt +
        (fracProduct (halfB (s.word rs)) (halfB (s.word rt)) + fracProduct (halfA (s.word rs)) (halfA (s.word rt)))),
        fracClamped (halfB (s.word rs)) (halfB (s.word rt)) || fracClamped (halfA (s.word rs)) (halfA (s.word rt)))).advance) ∧
    (Available (.dpsqSWPh ac rs rt) s → exec (.dpsqSWPh ac rs rt) s =
      .next (s.setAccFlag ac (BitVec.ofInt 64 ((s.acc ac).toInt -
        (fracProduct (halfB (s.word rs)) (halfB (s.word rt)) + fracProduct (halfA (s.word rs)) (halfA (s.word rt)))),
        fracClamped (halfB (s.word rs)) (halfB (s.word rt)) || fracClamped (halfA (s.word rs)) (halfA (s.word rt)))).advance) ∧
    (Available (.dpaqxSWPh ac rs rt) s → exec (.dpaqxSWPh ac rs rt) s =
      .next (s.setAccFlag ac (BitVec.ofInt 64 ((s.acc ac).toInt +
        (fracProduct (halfB (s.word rs)) (halfA (s.word rt)) + fracProduct (halfA (s.word rs)) (halfB (s.word rt)))),
        fracClamped (halfB (s.word rs)) (halfA (s.word rt)) || fracClamped (halfA (s.word rs)) (halfB (s.word rt)))).advance) ∧
    (Available (.dpsqxSWPh ac rs rt) s → exec (.dpsqxSWPh ac rs rt) s =
      .next (s.setAccFlag ac (BitVec.ofInt 64 ((s.acc ac).toInt -
        (fracProduct (halfB (s.word rs)) (halfA (s.word rt)) + fracProduct (halfA (s.word rs)) (halfB (s.word rt)))),
        fracClamped (halfB (s.word rs)) (halfA (s.word rt)) || fracClamped (halfA (s.word rs)) (halfB (s.word rt)))).advance) ∧
    (Available (.mulsaqSWPh ac rs rt) s → exec (.mulsaqSWPh ac rs rt) s =
      .next (s.setAccFlag ac (BitVec.ofInt 64 ((s.acc ac).toInt +
        (fracProduct (halfB (s.word rs)) (halfB (s.word rt)) - fracProduct (halfA (s.word rs)) (halfA (s.word rt)))),
        fracClamped (halfB (s.word rs)) (halfB (s.word rt)) || fracClamped (halfA (s.word rs)) (halfA (s.word rt)))).advance) ∧
    (Available (.maqSWPhl ac rs rt) s → exec (.maqSWPhl ac rs rt) s =
      .next (s.setAccFlag ac (BitVec.ofInt 64 ((s.acc ac).toInt + fracProduct (halfB (s.word rs)) (halfB (s.word rt))),
        fracClamped (halfB (s.word rs)) (halfB (s.word rt)))).advance) ∧
    (Available (.maqSWPhr ac rs rt) s → exec (.maqSWPhr ac rs rt) s =
      .next (s.setAccFlag ac (BitVec.ofInt 64 ((s.acc ac).toInt + fracProduct (halfA (s.word rs)) (halfA (s.word rt))),
        fracClamped (halfA (s.word rs)) (halfA (s.word rt)))).advance)

/-- Available: DPAQX_SA and DPSQX_SA clamp the 64-bit sum to 32 signed bits; DPAQ_SA.L.W and DPSQ_SA.L.W clamp the
exact sum of the Q63 product to 64 bits; MAQ_SA clamps the 33-bit sum of LO and the product to 32 bits. Flag 16 + ac
is set exactly when a product or the sum was clamped. For MAQ_SA the two clamping constants are exchanged against
the printed sat32AccumulateQ31, and for DPAQX_SA and DPSQX_SA the flag index reads 16 + ac: the spec's resolutions
C19 and C21 (log 19). That products and the widened sum of DPAQ_SA.L.W and DPSQ_SA.L.W are signed is the inference
of R231 and R235 (N12, log 27). [derived: R232, R234, R235, R248, R249, R250, R251, R260, R261, R262, R33,
90_conflicts.md C19] -/
def Obligations.SaturatingAccumulateResults : Prop :=
  ∀ (ac : Acc) (rs rt : Reg) (s : State),
    (Available (.dpaqxSaWPh ac rs rt) s → exec (.dpaqxSaWPh ac rs rt) s =
      .next (s.setAccFlag ac (BitVec.ofInt 64 (clampSigned 32
        (BitVec.ofInt 64 ((s.acc ac).toInt +
          (fracProduct (halfB (s.word rs)) (halfA (s.word rt)) + fracProduct (halfA (s.word rs)) (halfB (s.word rt))))).toInt),
        fracClamped (halfB (s.word rs)) (halfA (s.word rt)) || fracClamped (halfA (s.word rs)) (halfB (s.word rt)) || !fitsSigned 32
        (BitVec.ofInt 64 ((s.acc ac).toInt +
          (fracProduct (halfB (s.word rs)) (halfA (s.word rt)) + fracProduct (halfA (s.word rs)) (halfB (s.word rt))))).toInt)).advance) ∧
    (Available (.dpsqxSaWPh ac rs rt) s → exec (.dpsqxSaWPh ac rs rt) s =
      .next (s.setAccFlag ac (BitVec.ofInt 64 (clampSigned 32
        (BitVec.ofInt 64 ((s.acc ac).toInt -
          (fracProduct (halfB (s.word rs)) (halfA (s.word rt)) + fracProduct (halfA (s.word rs)) (halfB (s.word rt))))).toInt),
        fracClamped (halfB (s.word rs)) (halfA (s.word rt)) || fracClamped (halfA (s.word rs)) (halfB (s.word rt)) || !fitsSigned 32
        (BitVec.ofInt 64 ((s.acc ac).toInt -
          (fracProduct (halfB (s.word rs)) (halfA (s.word rt)) + fracProduct (halfA (s.word rs)) (halfB (s.word rt))))).toInt)).advance) ∧
    (Available (.dpaqSaLW ac rs rt) s → exec (.dpaqSaLW ac rs rt) s =
      .next (s.setAccFlag ac (BitVec.ofInt 64 (clampSigned 64 ((s.acc ac).toInt + fracProduct (s.word rs) (s.word rt))),
        fracClamped (s.word rs) (s.word rt) || !fitsSigned 64 ((s.acc ac).toInt + fracProduct (s.word rs) (s.word rt)))).advance) ∧
    (Available (.dpsqSaLW ac rs rt) s → exec (.dpsqSaLW ac rs rt) s =
      .next (s.setAccFlag ac (BitVec.ofInt 64 (clampSigned 64 ((s.acc ac).toInt - fracProduct (s.word rs) (s.word rt))),
        fracClamped (s.word rs) (s.word rt) || !fitsSigned 64 ((s.acc ac).toInt - fracProduct (s.word rs) (s.word rt)))).advance) ∧
    (Available (.maqSaWPhl ac rs rt) s → exec (.maqSaWPhl ac rs rt) s =
      .next (s.setAccFlag ac (BitVec.ofInt 64 (clampSigned 32 (BitVec.ofInt 33 ((s.lo ac).toInt + fracProduct (halfB (s.word rs)) (halfB (s.word rt)))).toInt),
        fracClamped (halfB (s.word rs)) (halfB (s.word rt)) || !fitsSigned 32 (BitVec.ofInt 33 ((s.lo ac).toInt + fracProduct (halfB (s.word rs)) (halfB (s.word rt)))).toInt)).advance) ∧
    (Available (.maqSaWPhr ac rs rt) s → exec (.maqSaWPhr ac rs rt) s =
      .next (s.setAccFlag ac (BitVec.ofInt 64 (clampSigned 32 (BitVec.ofInt 33 ((s.lo ac).toInt + fracProduct (halfA (s.word rs)) (halfA (s.word rt)))).toInt),
        fracClamped (halfA (s.word rs)) (halfA (s.word rt)) || !fitsSigned 32 (BitVec.ofInt 33 ((s.lo ac).toInt + fracProduct (halfA (s.word rs)) (halfA (s.word rt)))).toInt)).advance)

/-- Available, start being the low six bits of pos and size the field or the low five bits of rs: where size <=
start the size + 1 bits of the accumulator from start down go to rt (EXTP sign-extends from bit 31), EFI becomes 0,
and EXTPDP and EXTPDPV subtract size + 1 from the seven bits of pos modulo 128; else EFI becomes 1, some value is
left in rt, and pos keeps its value. The six bits of the start position, the test of validity and the extension of
EXTP are the spec's resolutions C4, C23 and C24 (log 19); that the UNPREDICTABLE value stays in rt is log 22.
[derived: R281, R282, R283, R284, R285, R32, R36, 90_conflicts.md C24] -/
def Obligations.ExtractFieldResults : Prop :=
  ∀ (rt rs : Reg) (ac : Acc) (size start : Nat) (s : State), start = s.dspControl.toNat % 2 ^ 6 →
    (size < 32 → Available (.extp rt ac size) s →
      (size ≤ start → exec (.extp rt ac size) s =
        .next ((s.setEfi 0#1).setGpr rt
          (BitVec.ofInt 64 (BitVec.ofNat 32 ((s.acc ac).toNat / 2 ^ (start - size) % 2 ^ (size + 1))).toInt)).advance) ∧
      (start < size → ∃ v : DWord, exec (.extp rt ac size) s =
        .next (((s.setEfi 1#1).setGpr rt v).drawn 1).advance)) ∧
    (size < 32 → Available (.extpdp rt ac size) s →
      (size ≤ start → exec (.extpdp rt ac size) s =
        .next (((s.setPos (BitVec.ofInt 7 (uint (s.dspControl.extractLsb' 0 7) - (size + 1)))).setEfi 0#1).setGpr rt
          (BitVec.ofNat 64 ((s.acc ac).toNat / 2 ^ (start - size) % 2 ^ (size + 1)))).advance) ∧
      (start < size → ∃ v : DWord, exec (.extpdp rt ac size) s =
        .next (((s.setEfi 1#1).setGpr rt v).drawn 1).advance)) ∧
    (size = (s.gpr rs).toNat % 2 ^ 5 → Available (.extpv rt ac rs) s →
      (size ≤ start → exec (.extpv rt ac rs) s =
        .next ((s.setEfi 0#1).setGpr rt
          (BitVec.ofNat 64 ((s.acc ac).toNat / 2 ^ (start - size) % 2 ^ (size + 1)))).advance) ∧
      (start < size → ∃ v : DWord, exec (.extpv rt ac rs) s =
        .next (((s.setEfi 1#1).setGpr rt v).drawn 1).advance)) ∧
    (size = (s.gpr rs).toNat % 2 ^ 5 → Available (.extpdpv rt ac rs) s →
      (size ≤ start → exec (.extpdpv rt ac rs) s =
        .next (((s.setPos (BitVec.ofInt 7 (uint (s.dspControl.extractLsb' 0 7) - (size + 1)))).setEfi 0#1).setGpr rt
          (BitVec.ofNat 64 ((s.acc ac).toNat / 2 ^ (start - size) % 2 ^ (size + 1)))).advance) ∧
      (start < size → ∃ v : DWord, exec (.extpdpv rt ac rs) s =
        .next (((s.setEfi 1#1).setGpr rt v).drawn 1).advance))

/-- Available, the shift being the field or the low five bits of rs: EXTR.W writes the shifted accumulator
truncated, EXTR_R.W rounded, EXTR_RS.W rounded and clamped to 32 bits, each setting flag 23 exactly when the shifted
or the rounded value does not fit in 32 signed bits; EXTR_S.H clamps the shifted value to 16 bits and sets flag 23
when it had to. The five bits of the shift of EXTRV.W, EXTRV_R.W and EXTRV_RS.W and the width of the test of
EXTRV_S.H are the spec's resolutions C25 and C26 (log 19). That EXTR_RS.W clamps negative values too is R289's
choice of the Operation over the prose (log 19). [derived: R286, R287, R288, R289, R290, R291, R292, R293, R294,
R295] -/
def Obligations.ExtractWordResults : Prop :=
  ∀ (rt rs : Reg) (ac : Acc) (shift : Nat) (s : State),
    (shift < 32 → Available (.extrW rt ac shift) s → exec (.extrW rt ac shift) s =
      .next (s.setWordFlag rt 23
        (BitVec.ofInt 32 ((s.acc ac).toInt / 2 ^ shift), !fitsSigned 32 ((s.acc ac).toInt / 2 ^ shift) || !fitsSigned 32 (roundDiv (s.acc ac).toInt shift))).advance) ∧
    (shift < 32 → Available (.extrRW rt ac shift) s → exec (.extrRW rt ac shift) s =
      .next (s.setWordFlag rt 23
        (BitVec.ofInt 32 (roundDiv (s.acc ac).toInt shift), !fitsSigned 32 ((s.acc ac).toInt / 2 ^ shift) || !fitsSigned 32 (roundDiv (s.acc ac).toInt shift))).advance) ∧
    (shift < 32 → Available (.extrRsW rt ac shift) s → exec (.extrRsW rt ac shift) s =
      .next (s.setWordFlag rt 23
        (BitVec.ofInt 32 (clampSigned 32 (roundDiv (s.acc ac).toInt shift)), !fitsSigned 32 ((s.acc ac).toInt / 2 ^ shift) || !fitsSigned 32 (roundDiv (s.acc ac).toInt shift))).advance) ∧
    (shift < 32 → Available (.extrSH rt ac shift) s → exec (.extrSH rt ac shift) s =
      .next (s.setWordFlag rt 23
        (BitVec.ofInt 32 (clampSigned 16 ((s.acc ac).toInt / 2 ^ shift)), !fitsSigned 16 ((s.acc ac).toInt / 2 ^ shift))).advance) ∧
    (shift = (s.gpr rs).toNat % 2 ^ 5 → Available (.extrvW rt ac rs) s → exec (.extrvW rt ac rs) s =
      .next (s.setWordFlag rt 23
        (BitVec.ofInt 32 ((s.acc ac).toInt / 2 ^ shift), !fitsSigned 32 ((s.acc ac).toInt / 2 ^ shift) || !fitsSigned 32 (roundDiv (s.acc ac).toInt shift))).advance) ∧
    (shift = (s.gpr rs).toNat % 2 ^ 5 → Available (.extrvRW rt ac rs) s → exec (.extrvRW rt ac rs) s =
      .next (s.setWordFlag rt 23
        (BitVec.ofInt 32 (roundDiv (s.acc ac).toInt shift), !fitsSigned 32 ((s.acc ac).toInt / 2 ^ shift) || !fitsSigned 32 (roundDiv (s.acc ac).toInt shift))).advance) ∧
    (shift = (s.gpr rs).toNat % 2 ^ 5 → Available (.extrvRsW rt ac rs) s → exec (.extrvRsW rt ac rs) s =
      .next (s.setWordFlag rt 23
        (BitVec.ofInt 32 (clampSigned 32 (roundDiv (s.acc ac).toInt shift)), !fitsSigned 32 ((s.acc ac).toInt / 2 ^ shift) || !fitsSigned 32 (roundDiv (s.acc ac).toInt shift))).advance) ∧
    (shift = (s.gpr rs).toNat % 2 ^ 5 → Available (.extrvSH rt ac rs) s → exec (.extrvSH rt ac rs) s =
      .next (s.setWordFlag rt 23
        (BitVec.ofInt 32 (clampSigned 16 ((s.acc ac).toInt / 2 ^ shift)), !fitsSigned 16 ((s.acc ac).toInt / 2 ^ shift))).advance)

/-- Available: MFHI and MFLO copy all 64 bits of a half; MTHI and MTLO write all 64 bits of one half and keep the
other, but on an unread ac0 the other half takes some value; each of the four leaves ac0 read when ac is 0. MTHLIP
moves LO to HI and rs to LO as sign-extended words and adds 32 to pos, which takes some value instead where it was
above 32. That MTLO on an unread ac0 makes HI arbitrary, where its page repeats the sentence about LO, is the spec's
correction C3 (log 19); the mark, and that MTHI and MTLO clear it, is its decision D12 (log 27); that MTHLIP
confines what is UNPREDICTABLE to pos is log 22. [derived: R296, R297, R298, R299, R301, R30, 90_conflicts.md C3,
92_eei_decisions.md D12] -/
def Obligations.HiLoMoveResults : Prop :=
  ∀ (rd rs : Reg) (ac : Acc) (s : State),
    (Available (.mfhi rd ac) s → exec (.mfhi rd ac) s =
      .next ((s.markAcRead ac).setGpr rd (s.hi ac)).advance) ∧
    (Available (.mflo rd ac) s → exec (.mflo rd ac) s =
      .next ((s.markAcRead ac).setGpr rd (s.lo ac)).advance) ∧
    (Available (.mthi rs ac) s → ¬ (ac = 0 ∧ s.ac0Unread = true) → exec (.mthi rs ac) s =
      .next ((s.setHiLo ac (s.gpr rs) (s.lo ac)).markAcRead ac).advance) ∧
    (Available (.mthi rs ac) s → ac = 0 ∧ s.ac0Unread = true → ∃ v : DWord, exec (.mthi rs ac) s =
      .next (((s.setHiLo ac (s.gpr rs) v).drawn 1).markAcRead ac).advance) ∧
    (Available (.mtlo rs ac) s → ¬ (ac = 0 ∧ s.ac0Unread = true) → exec (.mtlo rs ac) s =
      .next ((s.setHiLo ac (s.hi ac) (s.gpr rs)).markAcRead ac).advance) ∧
    (Available (.mtlo rs ac) s → ac = 0 ∧ s.ac0Unread = true → ∃ v : DWord, exec (.mtlo rs ac) s =
      .next (((s.setHiLo ac v (s.gpr rs)).drawn 1).markAcRead ac).advance) ∧
    (Available (.mthlip rs ac) s → s.dspControl.toNat % 2 ^ 7 ≤ 32 → exec (.mthlip rs ac) s =
      .next ((s.setHiLo ac (BitVec.ofInt 64 (BitVec.ofNat 32 (s.lo ac).toNat).toInt)
        (BitVec.ofInt 64 (s.word rs).toInt)).setPos (BitVec.ofNat 7 (s.dspControl.toNat % 2 ^ 7 + 32))).advance) ∧
    (Available (.mthlip rs ac) s → 32 < s.dspControl.toNat % 2 ^ 7 → ∃ v : BitVec 7, exec (.mthlip rs ac) s =
      .next (((s.setHiLo ac (BitVec.ofInt 64 (BitVec.ofNat 32 (s.lo ac).toNat).toInt)
        (BitVec.ofInt 64 (s.word rs).toInt)).setPos v).drawn 1).advance)

/-- Available, with both registers holding sign-extended words: the exact signed or unsigned product of the low
words is added to, subtracted from or put in the accumulator modulo 2^64; otherwise both halves take some values.
MULT and MULTU mark ac0 unread; nothing else changes. The mark is decision D12 (log 27); that MSUBU subtracts,
against its page's title, is resolution C28 (log 19); that UNPREDICTABLE results stay in the accumulator is log 22;
the test of a sign-extended word is R7's, from general knowledge (PRESUMED, log 28). [derived: R300, R302, R303,
R304, R305, R306, R307, R30] -/
def Obligations.BaseMultiplyResults : Prop :=
  ∀ (ac : Acc) (rs rt : Reg) (s : State),
    (Available (.madd ac rs rt) s →
      (s.gpr rs = BitVec.ofInt 64 (s.word rs).toInt ∧ s.gpr rt = BitVec.ofInt 64 (s.word rt).toInt →
        exec (.madd ac rs rt) s = .next ((s.setAcc ac (BitVec.ofInt 64 ((s.acc ac).toInt + (s.word rs).toInt * (s.word rt).toInt)))).advance) ∧
      (¬ (s.gpr rs = BitVec.ofInt 64 (s.word rs).toInt ∧ s.gpr rt = BitVec.ofInt 64 (s.word rt).toInt) →
        ∃ h l : DWord, exec (.madd ac rs rt) s = .next (((s.setHiLo ac h l).drawn 2)).advance)) ∧
    (Available (.maddu ac rs rt) s →
      (s.gpr rs = BitVec.ofInt 64 (s.word rs).toInt ∧ s.gpr rt = BitVec.ofInt 64 (s.word rt).toInt →
        exec (.maddu ac rs rt) s = .next ((s.setAcc ac (BitVec.ofInt 64 ((s.acc ac).toInt + uint (s.word rs) * uint (s.word rt))))).advance) ∧
      (¬ (s.gpr rs = BitVec.ofInt 64 (s.word rs).toInt ∧ s.gpr rt = BitVec.ofInt 64 (s.word rt).toInt) →
        ∃ h l : DWord, exec (.maddu ac rs rt) s = .next (((s.setHiLo ac h l).drawn 2)).advance)) ∧
    (Available (.msub ac rs rt) s →
      (s.gpr rs = BitVec.ofInt 64 (s.word rs).toInt ∧ s.gpr rt = BitVec.ofInt 64 (s.word rt).toInt →
        exec (.msub ac rs rt) s = .next ((s.setAcc ac (BitVec.ofInt 64 ((s.acc ac).toInt - (s.word rs).toInt * (s.word rt).toInt)))).advance) ∧
      (¬ (s.gpr rs = BitVec.ofInt 64 (s.word rs).toInt ∧ s.gpr rt = BitVec.ofInt 64 (s.word rt).toInt) →
        ∃ h l : DWord, exec (.msub ac rs rt) s = .next (((s.setHiLo ac h l).drawn 2)).advance)) ∧
    (Available (.msubu ac rs rt) s →
      (s.gpr rs = BitVec.ofInt 64 (s.word rs).toInt ∧ s.gpr rt = BitVec.ofInt 64 (s.word rt).toInt →
        exec (.msubu ac rs rt) s = .next ((s.setAcc ac (BitVec.ofInt 64 ((s.acc ac).toInt - uint (s.word rs) * uint (s.word rt))))).advance) ∧
      (¬ (s.gpr rs = BitVec.ofInt 64 (s.word rs).toInt ∧ s.gpr rt = BitVec.ofInt 64 (s.word rt).toInt) →
        ∃ h l : DWord, exec (.msubu ac rs rt) s = .next (((s.setHiLo ac h l).drawn 2)).advance)) ∧
    (Available (.mult ac rs rt) s →
      (s.gpr rs = BitVec.ofInt 64 (s.word rs).toInt ∧ s.gpr rt = BitVec.ofInt 64 (s.word rt).toInt →
        exec (.mult ac rs rt) s = .next ((s.setAcc ac (BitVec.ofInt 64 ((s.word rs).toInt * (s.word rt).toInt))).markAcUnread ac).advance) ∧
      (¬ (s.gpr rs = BitVec.ofInt 64 (s.word rs).toInt ∧ s.gpr rt = BitVec.ofInt 64 (s.word rt).toInt) →
        ∃ h l : DWord, exec (.mult ac rs rt) s = .next (((s.setHiLo ac h l).drawn 2).markAcUnread ac).advance)) ∧
    (Available (.multu ac rs rt) s →
      (s.gpr rs = BitVec.ofInt 64 (s.word rs).toInt ∧ s.gpr rt = BitVec.ofInt 64 (s.word rt).toInt →
        exec (.multu ac rs rt) s = .next ((s.setAcc ac (BitVec.ofInt 64 (uint (s.word rs) * uint (s.word rt)))).markAcUnread ac).advance) ∧
      (¬ (s.gpr rs = BitVec.ofInt 64 (s.word rs).toInt ∧ s.gpr rt = BitVec.ofInt 64 (s.word rt).toInt) →
        ∃ h l : DWord, exec (.multu ac rs rt) s = .next (((s.setHiLo ac h l).drawn 2).markAcUnread ac).advance))

/-- Available, the amount being the signed 6-bit field or the low six bits of rs: for an amount of 0 or more the
64-bit accumulator is divided by 2^amount (zeros come in at the top), for a negative one it is multiplied by
2^(-amount) modulo 2^64; both halves are sign-extended words. That both halves are written as sign-extended words is
the spec's reading C2 of a write-back line printed 192 bits wide, and the six bits of the shift of SHILOV its
resolution C29 (both log 19). [derived: R308, R309, R28, 90_conflicts.md C2] -/
def Obligations.AccumulatorShiftResults : Prop :=
  ∀ (ac : Acc) (rs : Reg) (amount : BitVec 6) (s : State),
    (Available (.shilo ac amount) s → exec (.shilo ac amount) s =
      .next (s.setAcc ac (if 0 ≤ amount.toInt then BitVec.ofNat 64 ((s.acc ac).toNat / 2 ^ amount.toInt.toNat)
        else BitVec.ofNat 64 ((s.acc ac).toNat * 2 ^ (-amount.toInt).toNat))).advance) ∧
    (Available (.shilov ac rs) s → amount = BitVec.ofNat 6 (s.gpr rs).toNat → exec (.shilov ac rs) s =
      .next (s.setAcc ac (if 0 ≤ amount.toInt then BitVec.ofNat 64 ((s.acc ac).toNat / 2 ^ amount.toInt.toNat)
        else BitVec.ofNat 64 ((s.acc ac).toNat * 2 ^ (-amount.toInt).toNat))).advance)

/-- Available: RDDSP writes rd with the bits of the selected fields in their places and zeros elsewhere; WRDSP
replaces the bits of the selected fields by those of rs and keeps every other bit; mask bits 0 to 5 select pos,
scount, c, ouflag, ccond and EFI. Bit 15 is never read or written. The places of the fields are recovered by R31
(N3, log 27), and the last line of WRDSP is read by the spec's resolution C30 (log 19); bit 15 is log 23. [derived:
R310, R311, R31] -/
def Obligations.ControlRegisterAccess : Prop :=
  ∀ (rd rs : Reg) (mask : BitVec 10) (s : State),
    (Available (.rddsp rd mask) s → ∃ v : DWord, exec (.rddsp rd mask) s = .next (s.setGpr rd v).advance ∧
      ∀ n, v.getLsbD n = (maskSelects mask n && s.dspControl.getLsbD n)) ∧
    (Available (.wrdsp rs mask) s → ∃ d : Word, exec (.wrdsp rs mask) s = .next ({ s with dspControl := d }).advance ∧
      ∀ n, n < 32 → d.getLsbD n = if maskSelects mask n then (s.gpr rs).getLsbD n else s.dspControl.getLsbD n)

/-- Available, aligned and with no fault from the oracle: the address is the sign-extended 32-bit sum of index and
base (LDX: the 64-bit sum); the 1, 2, 4 or 8 bytes from it, in the byte order of the machine, go to rd, LBUX
zero-extended, LHX and LWX sign-extended; memory is only read. That the 32-bit sum of LBUX, LHX and LWX is
sign-extended is the spec's decision D8 (log 27); no translation is D7 (log 20); that a read changes nothing is D9
(log 27); the byte order is a parameter (D6, log 8); the oracle as a table is the model's form of it (DESIGN CHOICE,
log 16). [derived: R340, R341, R342, R343, R344, R52, R53, R54, 20_memory.md R58, 92_eei_decisions.md D8] -/
def Obligations.LoadResults : Prop :=
  ∀ (rd index base : Reg) (a : Addr) (s : State),
    (a = BitVec.ofInt 64 (BitVec.ofNat 32 ((s.gpr index).toNat + (s.gpr base).toNat)).toInt → Available (.lbux rd index base) s →
      memFault s.params.memFault a 1 = none →
      exec (.lbux rd index base) s = .next (s.setGpr rd (BitVec.ofNat 64 (bytesValue s a 1))).advance ∧
      loadAccess s (.lbux rd index base) = some (a, 1)) ∧
    (a = BitVec.ofInt 64 (BitVec.ofNat 32 ((s.gpr index).toNat + (s.gpr base).toNat)).toInt → Available (.lhx rd index base) s →
      a.toNat % 2 = 0 → memFault s.params.memFault a 2 = none →
      exec (.lhx rd index base) s = .next (s.setGpr rd (BitVec.ofInt 64 (BitVec.ofNat 16 (bytesValue s a 2)).toInt)).advance ∧
      loadAccess s (.lhx rd index base) = some (a, 2)) ∧
    (a = BitVec.ofInt 64 (BitVec.ofNat 32 ((s.gpr index).toNat + (s.gpr base).toNat)).toInt → Available (.lwx rd index base) s →
      a.toNat % 4 = 0 → memFault s.params.memFault a 4 = none →
      exec (.lwx rd index base) s = .next (s.setGpr rd (BitVec.ofInt 64 (BitVec.ofNat 32 (bytesValue s a 4)).toInt)).advance ∧
      loadAccess s (.lwx rd index base) = some (a, 4)) ∧
    (a = BitVec.ofNat 64 ((s.gpr index).toNat + (s.gpr base).toNat) → Available (.ldx rd index base) s →
      a.toNat % 8 = 0 → memFault s.params.memFault a 8 = none →
      exec (.ldx rd index base) s = .next (s.setGpr rd (BitVec.ofNat 64 (bytesValue s a 8))).advance ∧
      loadAccess s (.ldx rd index base) = some (a, 8))

/-- Available, each of the ten writes to rd, sign-extended, its exact products: doubled and clamped (MULEQ_S),
unsigned and clamped to 16 bits (MULEU_S), doubled, rounded or truncated to the high half and clamped (MULQ_RS,
MULQ_S), or wrapped or clamped to 16 signed bits (MUL, MUL_S); sets flag 21 exactly when a value was clamped or did
not fit; and leaves some values in both halves of ac0. For MUL.PH and MUL_S.PH the sign-extended upper half of rd is
the spec's decision D20 (C32, log 19, log 27), and that MUL.PH sets the flag as well, and that one clamping helper
is meant, its resolutions C31 and C33 (log 19); that products are signed is its inference (N12, log 27); that the
UNPREDICTABLE ac0 is all that changes besides is log 22. [derived: R350, R351, R352, R353, R354, R355, R356, R357,
R358, R359, R360, R361, R362, R363, R364, R365, 92_eei_decisions.md D20] -/
def Obligations.MultiplyToRegisterResults : Prop :=
  ∀ (rd rs rt : Reg) (s : State),
    (Available (.muleqSWPhl rd rs rt) s → ∃ h l : DWord, exec (.muleqSWPhl rd rs rt) s =
      .next (((s.setWordFlag rd 21
        (BitVec.ofInt 32 (fracProduct (halfB (s.word rs)) (halfB (s.word rt))), fracClamped (halfB (s.word rs)) (halfB (s.word rt)))).setHiLo 0 h l).drawn 2).advance) ∧
    (Available (.muleqSWPhr rd rs rt) s → ∃ h l : DWord, exec (.muleqSWPhr rd rs rt) s =
      .next (((s.setWordFlag rd 21
        (BitVec.ofInt 32 (fracProduct (halfA (s.word rs)) (halfA (s.word rt))), fracClamped (halfA (s.word rs)) (halfA (s.word rt)))).setHiLo 0 h l).drawn 2).advance) ∧
    (Available (.muleuSPhQbl rd rs rt) s → ∃ h l : DWord, exec (.muleuSPhQbl rd rs rt) s =
      .next (((s.setWordFlag rd 21
        (joinPH (saturateUnsigned 16 (uint (byteD (s.word rs)) * uint (halfB (s.word rt))))
          (saturateUnsigned 16 (uint (byteC (s.word rs)) * uint (halfA (s.word rt)))))).setHiLo 0 h l).drawn 2).advance) ∧
    (Available (.muleuSPhQbr rd rs rt) s → ∃ h l : DWord, exec (.muleuSPhQbr rd rs rt) s =
      .next (((s.setWordFlag rd 21
        (joinPH (saturateUnsigned 16 (uint (byteB (s.word rs)) * uint (halfB (s.word rt))))
          (saturateUnsigned 16 (uint (byteA (s.word rs)) * uint (halfA (s.word rt)))))).setHiLo 0 h l).drawn 2).advance) ∧
    (Available (.mulqRsPh rd rs rt) s → ∃ h l : DWord, exec (.mulqRsPh rd rs rt) s =
      .next (((s.setWordFlag rd 21
        (zipPHFlag (fun a b => (BitVec.ofInt 16 (clampSigned 16 (roundDiv (2 * (a.toInt * b.toInt)) 16)), fracClamped a b))
          (s.word rs) (s.word rt))).setHiLo 0 h l).drawn 2).advance) ∧
    (Available (.mulqSPh rd rs rt) s → ∃ h l : DWord, exec (.mulqSPh rd rs rt) s =
      .next (((s.setWordFlag rd 21
        (zipPHFlag (fun a b => (BitVec.ofInt 16 (clampSigned 16 (2 * (a.toInt * b.toInt) / 2 ^ 16)), fracClamped a b))
          (s.word rs) (s.word rt))).setHiLo 0 h l).drawn 2).advance) ∧
    (Available (.mulPh rd rs rt) s → ∃ h l : DWord, exec (.mulPh rd rs rt) s =
      .next (((s.setWordFlag rd 21
        (zipPHFlag (fun a b => wrapSigned 16 (a.toInt * b.toInt)) (s.word rs) (s.word rt))).setHiLo 0 h l).drawn 2).advance) ∧
    (Available (.mulSPh rd rs rt) s → ∃ h l : DWord, exec (.mulSPh rd rs rt) s =
      .next (((s.setWordFlag rd 21
        (zipPHFlag (fun a b => saturateSigned 16 (a.toInt * b.toInt)) (s.word rs) (s.word rt))).setHiLo 0 h l).drawn 2).advance) ∧
    (Available (.mulqSW rd rs rt) s → ∃ h l : DWord, exec (.mulqSW rd rs rt) s =
      .next (((s.setWordFlag rd 21
        (BitVec.ofInt 32 (clampSigned 32 (2 * ((s.word rs).toInt * (s.word rt).toInt) / 2 ^ 32)),
          fracClamped (s.word rs) (s.word rt))).setHiLo 0 h l).drawn 2).advance) ∧
    (Available (.mulqRsW rd rs rt) s → ∃ h l : DWord, exec (.mulqRsW rd rs rt) s =
      .next (((s.setWordFlag rd 21
        (BitVec.ofInt 32 (clampSigned 32 (roundDiv (2 * ((s.word rs).toInt * (s.word rt).toInt)) 32)),
          fracClamped (s.word rs) (s.word rt))).setHiLo 0 h l).drawn 2).advance)

/-- Available, the amount being the field or the low 3, 4 or 5 bits of rs: each element is multiplied by 2^sa,
modulo its width or, in the _S forms, clamped; flag 22 is set exactly when a halfword or word does not fit, and for
bytes when sa is not 0 and the byte is at least 2^(7-sa), the sign bit counting among the discarded bits. For
SHLL_S.W and SHLLV_S.W the helper takes 32 bits, where its printed header is misprinted, by the spec's resolution
C35 (R380, log 19). That the flag of the byte shifts counts the sign bit is R371's choice of the Operation over the
prose, which speaks of the bits shifted out (V14, log 19), and that SHLL_S.PH clamps both halfwords R377's choice of
it over the formula (log 19). [derived: R371, R372, R373, R374, R375, R376, R377, R378, R379, R380, R381, R382,
90_conflicts.md C35, 93_implementation_defined.md V14] -/
def Obligations.LeftShiftResults : Prop :=
  ∀ (rd rt rs : Reg) (sa : Nat) (s : State),
    (sa < 8 → Available (.shllQb rd rt sa) s → exec (.shllQb rd rt sa) s =
      .next (s.setWordFlag rd 22
        (mapQBFlag (fun a => (BitVec.ofNat 8 (a.toNat * 2 ^ sa), decide (sa ≠ 0 ∧ 2 ^ (7 - sa) ≤ a.toNat))) (s.word rt))).advance) ∧
    (sa = (s.gpr rs).toNat % 2 ^ 3 → Available (.shllvQb rd rt rs) s → exec (.shllvQb rd rt rs) s =
      .next (s.setWordFlag rd 22
        (mapQBFlag (fun a => (BitVec.ofNat 8 (a.toNat * 2 ^ sa), decide (sa ≠ 0 ∧ 2 ^ (7 - sa) ≤ a.toNat))) (s.word rt))).advance) ∧
    (sa < 16 → Available (.shllPh rd rt sa) s → exec (.shllPh rd rt sa) s =
      .next (s.setWordFlag rd 22
        (mapPHFlag (fun a => wrapSigned 16 (a.toInt * 2 ^ sa)) (s.word rt))).advance) ∧
    (sa = (s.gpr rs).toNat % 2 ^ 4 → Available (.shllvPh rd rt rs) s → exec (.shllvPh rd rt rs) s =
      .next (s.setWordFlag rd 22
        (mapPHFlag (fun a => wrapSigned 16 (a.toInt * 2 ^ sa)) (s.word rt))).advance) ∧
    (sa < 16 → Available (.shllSPh rd rt sa) s → exec (.shllSPh rd rt sa) s =
      .next (s.setWordFlag rd 22
        (mapPHFlag (fun a => saturateSigned 16 (a.toInt * 2 ^ sa)) (s.word rt))).advance) ∧
    (sa = (s.gpr rs).toNat % 2 ^ 4 → Available (.shllvSPh rd rt rs) s → exec (.shllvSPh rd rt rs) s =
      .next (s.setWordFlag rd 22
        (mapPHFlag (fun a => saturateSigned 16 (a.toInt * 2 ^ sa)) (s.word rt))).advance) ∧
    (sa < 32 → Available (.shllSW rd rt sa) s → exec (.shllSW rd rt sa) s =
      .next (s.setWordFlag rd 22
        (saturateSigned 32 ((s.word rt).toInt * 2 ^ sa))).advance) ∧
    (sa = (s.gpr rs).toNat % 2 ^ 5 → Available (.shllvSW rd rt rs) s → exec (.shllvSW rd rt rs) s =
      .next (s.setWordFlag rd 22
        (saturateSigned 32 ((s.word rt).toInt * 2 ^ sa))).advance)

/-- Available, the amount being the field or the low 3, 4 or 5 bits of rs: SHRL divides each element as an unsigned
value by 2^sa, SHRA as a signed one rounding down, SHRA_R as a signed one rounding to the nearest with ties up; no
flag is written. A shift by 0 in SHRA_R.QB and the last line of SHRA_R.W are the spec's resolutions C37 and C38 (log
19). [derived: R384, R385, R386, R387, R388, R389, R390, R391, R393, R394, R395, R396, R397, R398, R399, R400,
47_shifts.md] -/
def Obligations.RightShiftResults : Prop :=
  ∀ (rd rt rs : Reg) (sa : Nat) (s : State),
    (sa < 8 → Available (.shrlQb rd rt sa) s → exec (.shrlQb rd rt sa) s =
      .next (s.setWord rd (mapQB (fun a => BitVec.ofNat 8 (a.toNat / 2 ^ sa)) (s.word rt))).advance) ∧
    (sa = (s.gpr rs).toNat % 2 ^ 3 → Available (.shrlvQb rd rt rs) s → exec (.shrlvQb rd rt rs) s =
      .next (s.setWord rd (mapQB (fun a => BitVec.ofNat 8 (a.toNat / 2 ^ sa)) (s.word rt))).advance) ∧
    (sa < 16 → Available (.shrlPh rd rt sa) s → exec (.shrlPh rd rt sa) s =
      .next (s.setWord rd (mapPH (fun a => BitVec.ofNat 16 (a.toNat / 2 ^ sa)) (s.word rt))).advance) ∧
    (sa = (s.gpr rs).toNat % 2 ^ 4 → Available (.shrlvPh rd rt rs) s → exec (.shrlvPh rd rt rs) s =
      .next (s.setWord rd (mapPH (fun a => BitVec.ofNat 16 (a.toNat / 2 ^ sa)) (s.word rt))).advance) ∧
    (sa < 8 → Available (.shraQb rd rt sa) s → exec (.shraQb rd rt sa) s =
      .next (s.setWord rd (mapQB (fun a => BitVec.ofInt 8 (a.toInt / 2 ^ sa)) (s.word rt))).advance) ∧
    (sa = (s.gpr rs).toNat % 2 ^ 3 → Available (.shravQb rd rt rs) s → exec (.shravQb rd rt rs) s =
      .next (s.setWord rd (mapQB (fun a => BitVec.ofInt 8 (a.toInt / 2 ^ sa)) (s.word rt))).advance) ∧
    (sa < 16 → Available (.shraPh rd rt sa) s → exec (.shraPh rd rt sa) s =
      .next (s.setWord rd (mapPH (fun a => BitVec.ofInt 16 (a.toInt / 2 ^ sa)) (s.word rt))).advance) ∧
    (sa = (s.gpr rs).toNat % 2 ^ 4 → Available (.shravPh rd rt rs) s → exec (.shravPh rd rt rs) s =
      .next (s.setWord rd (mapPH (fun a => BitVec.ofInt 16 (a.toInt / 2 ^ sa)) (s.word rt))).advance) ∧
    (sa < 8 → Available (.shraRQb rd rt sa) s → exec (.shraRQb rd rt sa) s =
      .next (s.setWord rd (mapQB (fun a => BitVec.ofInt 8 (roundDiv a.toInt sa)) (s.word rt))).advance) ∧
    (sa = (s.gpr rs).toNat % 2 ^ 3 → Available (.shravRQb rd rt rs) s → exec (.shravRQb rd rt rs) s =
      .next (s.setWord rd (mapQB (fun a => BitVec.ofInt 8 (roundDiv a.toInt sa)) (s.word rt))).advance) ∧
    (sa < 16 → Available (.shraRPh rd rt sa) s → exec (.shraRPh rd rt sa) s =
      .next (s.setWord rd (mapPH (fun a => BitVec.ofInt 16 (roundDiv a.toInt sa)) (s.word rt))).advance) ∧
    (sa = (s.gpr rs).toNat % 2 ^ 4 → Available (.shravRPh rd rt rs) s → exec (.shravRPh rd rt rs) s =
      .next (s.setWord rd (mapPH (fun a => BitVec.ofInt 16 (roundDiv a.toInt sa)) (s.word rt))).advance) ∧
    (sa < 32 → Available (.shraRW rd rt sa) s → exec (.shraRW rd rt sa) s =
      .next (s.setWord rd (BitVec.ofInt 32 (roundDiv (s.word rt).toInt sa))).advance) ∧
    (sa = (s.gpr rs).toNat % 2 ^ 5 → Available (.shravRW rd rt rs) s → exec (.shravRW rd rt rs) s =
      .next (s.setWord rd (BitVec.ofInt 32 (roundDiv (s.word rt).toInt sa))).advance)
end

