-- ==== Sys2Proof/Laws/Decode.lean ====
section
/-!
SUPPORT. The six fields of a word and the word of six fields undo each other; the fields of register and accumulator
numbers are read back as those numbers; the decoder on encoded words reads the fields alone.
-/

namespace Sys2Proof

/-- The value of two bit strings in a row. -/
theorem toNat_append_eq_add {n m : Nat} (x : BitVec n) (y : BitVec m) :
    (x ++ y).toNat = x.toNat * 2 ^ m + y.toNat := by
  rw [BitVec.toNat_append, ← Nat.shiftLeft_add_eq_or_of_lt y.isLt, Nat.shiftLeft_eq]

variable (op : BitVec 6) (a b c d : BitVec 5) (f : BitVec 6)

theorem toNat_instrWord : (instrWord op a b c d f).toNat =
    ((((op.toNat * 2 ^ 5 + a.toNat) * 2 ^ 5 + b.toNat) * 2 ^ 5 + c.toNat) * 2 ^ 5 + d.toNat) * 2 ^ 6 + f.toNat := by
  simp only [instrWord, toNat_append_eq_add]

@[simp] theorem fieldOp_instrWord : fieldOp (instrWord op a b c d f) = op := by
  apply BitVec.eq_of_toNat_eq
  have := op.isLt; have := a.isLt; have := b.isLt; have := c.isLt; have := d.isLt; have := f.isLt
  simp only [fieldOp, BitVec.extractLsb'_toNat, toNat_instrWord, Nat.shiftRight_eq_div_pow]
  omega

@[simp] theorem fieldA_instrWord : fieldA (instrWord op a b c d f) = a := by
  apply BitVec.eq_of_toNat_eq
  have := op.isLt; have := a.isLt; have := b.isLt; have := c.isLt; have := d.isLt; have := f.isLt
  simp only [fieldA, BitVec.extractLsb'_toNat, toNat_instrWord, Nat.shiftRight_eq_div_pow]
  omega

@[simp] theorem fieldB_instrWord : fieldB (instrWord op a b c d f) = b := by
  apply BitVec.eq_of_toNat_eq
  have := op.isLt; have := a.isLt; have := b.isLt; have := c.isLt; have := d.isLt; have := f.isLt
  simp only [fieldB, BitVec.extractLsb'_toNat, toNat_instrWord, Nat.shiftRight_eq_div_pow]
  omega

@[simp] theorem fieldC_instrWord : fieldC (instrWord op a b c d f) = c := by
  apply BitVec.eq_of_toNat_eq
  have := op.isLt; have := a.isLt; have := b.isLt; have := c.isLt; have := d.isLt; have := f.isLt
  simp only [fieldC, BitVec.extractLsb'_toNat, toNat_instrWord, Nat.shiftRight_eq_div_pow]
  omega

@[simp] theorem fieldD_instrWord : fieldD (instrWord op a b c d f) = d := by
  apply BitVec.eq_of_toNat_eq
  have := op.isLt; have := a.isLt; have := b.isLt; have := c.isLt; have := d.isLt; have := f.isLt
  simp only [fieldD, BitVec.extractLsb'_toNat, toNat_instrWord, Nat.shiftRight_eq_div_pow]
  omega

@[simp] theorem fieldF_instrWord : fieldF (instrWord op a b c d f) = f := by
  apply BitVec.eq_of_toNat_eq
  have := op.isLt; have := a.isLt; have := b.isLt; have := c.isLt; have := d.isLt; have := f.isLt
  simp only [fieldF, BitVec.extractLsb'_toNat, toNat_instrWord, Nat.shiftRight_eq_div_pow]
  omega

/-- A word is the word of its fields. -/
theorem instrWord_fields (w : Word) :
    instrWord (fieldOp w) (fieldA w) (fieldB w) (fieldC w) (fieldD w) (fieldF w) = w := by
  apply BitVec.eq_of_toNat_eq
  have := w.isLt
  simp only [toNat_instrWord, fieldOp, fieldA, fieldB, fieldC, fieldD, fieldF, BitVec.extractLsb'_toNat,
    Nat.shiftRight_eq_div_pow]
  omega

/-- Decoding a word given by its fields. -/
theorem decodeWord_instrWord : decodeWord (instrWord op a b c d f) = decodeFields op a b c d f := by
  simp only [decodeWord, fieldOp_instrWord, fieldA_instrWord, fieldB_instrWord, fieldC_instrWord, fieldD_instrWord,
    fieldF_instrWord]

@[simp] theorem reg_regField (r : Reg) : reg (regField r) = r := rfl

@[simp] theorem acc_accField (k : Acc) : acc (accField k) = k := by
  revert k; decide

@[simp] theorem high3_accField (k : Acc) : high3 (accField k) = 0#3 := by
  revert k; decide

@[simp] theorem regField_reg (x : BitVec 5) : regField (reg x) = x := rfl

/-- A five-bit field whose upper three bits are zero is the field of the accumulator it names. -/
theorem accField_acc {x : BitVec 5} (h : high3 x = 0#3) : accField (acc x) = x := by
  revert x; decide

/-- An amount in range is read back from its field. -/
theorem toNat_ofNat_field {n : Nat} (h : n < 2 ^ 5) : (BitVec.ofNat 5 n).toNat = n := by
  simp only [BitVec.toNat_ofNat, Nat.mod_eq_of_lt h]

@[simp] theorem zeroFields_of {z : Prop} [Decidable z] (h : z) (i : Instr) : zeroFields z i = .ok i := by
  simp only [zeroFields, if_pos h]

/-- A constructor guarded by must-be-zero fields is answered exactly when they are zero. -/
theorem zeroFields_eq_ok {z : Prop} [Decidable z] {i j : Instr} : zeroFields z i = .ok j ↔ z ∧ i = j := by
  unfold zeroFields
  by_cases h : z <;> simp [h]

end Sys2Proof
end

