-- ==== Sys2Proof/Laws/State.lean ====
section
/-!
SUPPORT. One lemma per field per update of the state, so that no later proof unfolds a record update: what an update
writes, and for every other field (and every accessor that reads only such fields) that it is unchanged.
-/

namespace Sys2Proof.Machine

variable (s : State)

@[simp] theorem State.setGpr_gprs (r : Reg) (v : DWord) :
    (s.setGpr r v).gprs = if r = 0 then s.gprs else s.gprs.set r v := rfl
@[simp] theorem State.setGpr_pc (r : Reg) (v : DWord) : (s.setGpr r v).pc = s.pc := rfl
@[simp] theorem State.setGpr_accs (r : Reg) (v : DWord) : (s.setGpr r v).accs = s.accs := rfl
@[simp] theorem State.setGpr_dspControl (r : Reg) (v : DWord) : (s.setGpr r v).dspControl = s.dspControl := rfl
@[simp] theorem State.setGpr_dspEnabled (r : Reg) (v : DWord) : (s.setGpr r v).dspEnabled = s.dspEnabled := rfl
@[simp] theorem State.setGpr_ac0Unread (r : Reg) (v : DWord) : (s.setGpr r v).ac0Unread = s.ac0Unread := rfl
@[simp] theorem State.setGpr_slot (r : Reg) (v : DWord) : (s.setGpr r v).slot = s.slot := rfl
@[simp] theorem State.setGpr_delayed (r : Reg) (v : DWord) : (s.setGpr r v).delayed = s.delayed := rfl
@[simp] theorem State.setGpr_mem (r : Reg) (v : DWord) : (s.setGpr r v).mem = s.mem := rfl
@[simp] theorem State.setGpr_params (r : Reg) (v : DWord) : (s.setGpr r v).params = s.params := rfl
@[simp] theorem State.setGpr_draws (r : Reg) (v : DWord) : (s.setGpr r v).draws = s.draws := rfl
@[simp] theorem State.setGpr_hi (r : Reg) (v : DWord) (c : Acc) : (s.setGpr r v).hi c = s.hi c := rfl
@[simp] theorem State.setGpr_lo (r : Reg) (v : DWord) (c : Acc) : (s.setGpr r v).lo c = s.lo c := rfl
@[simp] theorem State.setGpr_acc (r : Reg) (v : DWord) (c : Acc) : (s.setGpr r v).acc c = s.acc c := rfl
@[simp] theorem State.setGpr_pos (r : Reg) (v : DWord) : (s.setGpr r v).pos = s.pos := rfl
@[simp] theorem State.setGpr_scount (r : Reg) (v : DWord) : (s.setGpr r v).scount = s.scount := rfl
@[simp] theorem State.setGpr_carry (r : Reg) (v : DWord) : (s.setGpr r v).carry = s.carry := rfl
@[simp] theorem State.setGpr_efi (r : Reg) (v : DWord) : (s.setGpr r v).efi = s.efi := rfl
@[simp] theorem State.setGpr_ouflag (r : Reg) (v : DWord) : (s.setGpr r v).ouflag = s.ouflag := rfl
@[simp] theorem State.setGpr_ccond (r : Reg) (v : DWord) : (s.setGpr r v).ccond = s.ccond := rfl
@[simp] theorem State.setGpr_inSlot (r : Reg) (v : DWord) : (s.setGpr r v).inSlot = s.inSlot := rfl
@[simp] theorem State.setGpr_readByte (r : Reg) (v : DWord) (y : Addr) : (s.setGpr r v).readByte y = s.readByte y := rfl

@[simp] theorem State.setWord_gprs (r : Reg) (w : Word) :
    (s.setWord r w).gprs = if r = 0 then s.gprs else s.gprs.set r (w.signExtend 64) := rfl
@[simp] theorem State.setWord_pc (r : Reg) (w : Word) : (s.setWord r w).pc = s.pc := rfl
@[simp] theorem State.setWord_accs (r : Reg) (w : Word) : (s.setWord r w).accs = s.accs := rfl
@[simp] theorem State.setWord_dspControl (r : Reg) (w : Word) : (s.setWord r w).dspControl = s.dspControl := rfl
@[simp] theorem State.setWord_dspEnabled (r : Reg) (w : Word) : (s.setWord r w).dspEnabled = s.dspEnabled := rfl
@[simp] theorem State.setWord_ac0Unread (r : Reg) (w : Word) : (s.setWord r w).ac0Unread = s.ac0Unread := rfl
@[simp] theorem State.setWord_slot (r : Reg) (w : Word) : (s.setWord r w).slot = s.slot := rfl
@[simp] theorem State.setWord_delayed (r : Reg) (w : Word) : (s.setWord r w).delayed = s.delayed := rfl
@[simp] theorem State.setWord_mem (r : Reg) (w : Word) : (s.setWord r w).mem = s.mem := rfl
@[simp] theorem State.setWord_params (r : Reg) (w : Word) : (s.setWord r w).params = s.params := rfl
@[simp] theorem State.setWord_draws (r : Reg) (w : Word) : (s.setWord r w).draws = s.draws := rfl
@[simp] theorem State.setWord_hi (r : Reg) (w : Word) (c : Acc) : (s.setWord r w).hi c = s.hi c := rfl
@[simp] theorem State.setWord_lo (r : Reg) (w : Word) (c : Acc) : (s.setWord r w).lo c = s.lo c := rfl
@[simp] theorem State.setWord_acc (r : Reg) (w : Word) (c : Acc) : (s.setWord r w).acc c = s.acc c := rfl
@[simp] theorem State.setWord_pos (r : Reg) (w : Word) : (s.setWord r w).pos = s.pos := rfl
@[simp] theorem State.setWord_scount (r : Reg) (w : Word) : (s.setWord r w).scount = s.scount := rfl
@[simp] theorem State.setWord_carry (r : Reg) (w : Word) : (s.setWord r w).carry = s.carry := rfl
@[simp] theorem State.setWord_efi (r : Reg) (w : Word) : (s.setWord r w).efi = s.efi := rfl
@[simp] theorem State.setWord_ouflag (r : Reg) (w : Word) : (s.setWord r w).ouflag = s.ouflag := rfl
@[simp] theorem State.setWord_ccond (r : Reg) (w : Word) : (s.setWord r w).ccond = s.ccond := rfl
@[simp] theorem State.setWord_inSlot (r : Reg) (w : Word) : (s.setWord r w).inSlot = s.inSlot := rfl
@[simp] theorem State.setWord_readByte (r : Reg) (w : Word) (y : Addr) :
    (s.setWord r w).readByte y = s.readByte y := rfl

@[simp] theorem State.setHiLo_gprs (a : Acc) (h l : DWord) : (s.setHiLo a h l).gprs = s.gprs := rfl
@[simp] theorem State.setHiLo_pc (a : Acc) (h l : DWord) : (s.setHiLo a h l).pc = s.pc := rfl
@[simp] theorem State.setHiLo_accs (a : Acc) (h l : DWord) : (s.setHiLo a h l).accs = s.accs.set a ⟨h, l⟩ := rfl
@[simp] theorem State.setHiLo_dspControl (a : Acc) (h l : DWord) : (s.setHiLo a h l).dspControl = s.dspControl := rfl
@[simp] theorem State.setHiLo_dspEnabled (a : Acc) (h l : DWord) : (s.setHiLo a h l).dspEnabled = s.dspEnabled := rfl
@[simp] theorem State.setHiLo_ac0Unread (a : Acc) (h l : DWord) : (s.setHiLo a h l).ac0Unread = s.ac0Unread := rfl
@[simp] theorem State.setHiLo_slot (a : Acc) (h l : DWord) : (s.setHiLo a h l).slot = s.slot := rfl
@[simp] theorem State.setHiLo_delayed (a : Acc) (h l : DWord) : (s.setHiLo a h l).delayed = s.delayed := rfl
@[simp] theorem State.setHiLo_mem (a : Acc) (h l : DWord) : (s.setHiLo a h l).mem = s.mem := rfl
@[simp] theorem State.setHiLo_params (a : Acc) (h l : DWord) : (s.setHiLo a h l).params = s.params := rfl
@[simp] theorem State.setHiLo_draws (a : Acc) (h l : DWord) : (s.setHiLo a h l).draws = s.draws := rfl
@[simp] theorem State.setHiLo_gpr (a : Acc) (h l : DWord) (q : Reg) : (s.setHiLo a h l).gpr q = s.gpr q := rfl
@[simp] theorem State.setHiLo_word (a : Acc) (h l : DWord) (q : Reg) : (s.setHiLo a h l).word q = s.word q := rfl
@[simp] theorem State.setHiLo_pos (a : Acc) (h l : DWord) : (s.setHiLo a h l).pos = s.pos := rfl
@[simp] theorem State.setHiLo_scount (a : Acc) (h l : DWord) : (s.setHiLo a h l).scount = s.scount := rfl
@[simp] theorem State.setHiLo_carry (a : Acc) (h l : DWord) : (s.setHiLo a h l).carry = s.carry := rfl
@[simp] theorem State.setHiLo_efi (a : Acc) (h l : DWord) : (s.setHiLo a h l).efi = s.efi := rfl
@[simp] theorem State.setHiLo_ouflag (a : Acc) (h l : DWord) : (s.setHiLo a h l).ouflag = s.ouflag := rfl
@[simp] theorem State.setHiLo_ccond (a : Acc) (h l : DWord) : (s.setHiLo a h l).ccond = s.ccond := rfl
@[simp] theorem State.setHiLo_inSlot (a : Acc) (h l : DWord) : (s.setHiLo a h l).inSlot = s.inSlot := rfl
@[simp] theorem State.setHiLo_readByte (a : Acc) (h l : DWord) (y : Addr) :
    (s.setHiLo a h l).readByte y = s.readByte y := rfl

@[simp] theorem State.setAcc_gprs (a : Acc) (v : DWord) : (s.setAcc a v).gprs = s.gprs := rfl
@[simp] theorem State.setAcc_pc (a : Acc) (v : DWord) : (s.setAcc a v).pc = s.pc := rfl
@[simp] theorem State.setAcc_accs (a : Acc) (v : DWord) :
    (s.setAcc a v).accs = s.accs.set a ⟨(v.extractLsb' 32 32).signExtend 64, (v.extractLsb' 0 32).signExtend 64⟩ :=
  rfl
@[simp] theorem State.setAcc_dspControl (a : Acc) (v : DWord) : (s.setAcc a v).dspControl = s.dspControl := rfl
@[simp] theorem State.setAcc_dspEnabled (a : Acc) (v : DWord) : (s.setAcc a v).dspEnabled = s.dspEnabled := rfl
@[simp] theorem State.setAcc_ac0Unread (a : Acc) (v : DWord) : (s.setAcc a v).ac0Unread = s.ac0Unread := rfl
@[simp] theorem State.setAcc_slot (a : Acc) (v : DWord) : (s.setAcc a v).slot = s.slot := rfl
@[simp] theorem State.setAcc_delayed (a : Acc) (v : DWord) : (s.setAcc a v).delayed = s.delayed := rfl
@[simp] theorem State.setAcc_mem (a : Acc) (v : DWord) : (s.setAcc a v).mem = s.mem := rfl
@[simp] theorem State.setAcc_params (a : Acc) (v : DWord) : (s.setAcc a v).params = s.params := rfl
@[simp] theorem State.setAcc_draws (a : Acc) (v : DWord) : (s.setAcc a v).draws = s.draws := rfl
@[simp] theorem State.setAcc_gpr (a : Acc) (v : DWord) (q : Reg) : (s.setAcc a v).gpr q = s.gpr q := rfl
@[simp] theorem State.setAcc_word (a : Acc) (v : DWord) (q : Reg) : (s.setAcc a v).word q = s.word q := rfl
@[simp] theorem State.setAcc_pos (a : Acc) (v : DWord) : (s.setAcc a v).pos = s.pos := rfl
@[simp] theorem State.setAcc_scount (a : Acc) (v : DWord) : (s.setAcc a v).scount = s.scount := rfl
@[simp] theorem State.setAcc_carry (a : Acc) (v : DWord) : (s.setAcc a v).carry = s.carry := rfl
@[simp] theorem State.setAcc_efi (a : Acc) (v : DWord) : (s.setAcc a v).efi = s.efi := rfl
@[simp] theorem State.setAcc_ouflag (a : Acc) (v : DWord) : (s.setAcc a v).ouflag = s.ouflag := rfl
@[simp] theorem State.setAcc_ccond (a : Acc) (v : DWord) : (s.setAcc a v).ccond = s.ccond := rfl
@[simp] theorem State.setAcc_inSlot (a : Acc) (v : DWord) : (s.setAcc a v).inSlot = s.inSlot := rfl
@[simp] theorem State.setAcc_readByte (a : Acc) (v : DWord) (y : Addr) : (s.setAcc a v).readByte y = s.readByte y := rfl

@[simp] theorem State.setPos_gprs (v : BitVec 7) : (s.setPos v).gprs = s.gprs := rfl
@[simp] theorem State.setPos_pc (v : BitVec 7) : (s.setPos v).pc = s.pc := rfl
@[simp] theorem State.setPos_accs (v : BitVec 7) : (s.setPos v).accs = s.accs := rfl
@[simp] theorem State.setPos_dspControl (v : BitVec 7) : (s.setPos v).dspControl = setBits s.dspControl 0 v := rfl
@[simp] theorem State.setPos_dspEnabled (v : BitVec 7) : (s.setPos v).dspEnabled = s.dspEnabled := rfl
@[simp] theorem State.setPos_ac0Unread (v : BitVec 7) : (s.setPos v).ac0Unread = s.ac0Unread := rfl
@[simp] theorem State.setPos_slot (v : BitVec 7) : (s.setPos v).slot = s.slot := rfl
@[simp] theorem State.setPos_delayed (v : BitVec 7) : (s.setPos v).delayed = s.delayed := rfl
@[simp] theorem State.setPos_mem (v : BitVec 7) : (s.setPos v).mem = s.mem := rfl
@[simp] theorem State.setPos_params (v : BitVec 7) : (s.setPos v).params = s.params := rfl
@[simp] theorem State.setPos_draws (v : BitVec 7) : (s.setPos v).draws = s.draws := rfl
@[simp] theorem State.setPos_gpr (v : BitVec 7) (q : Reg) : (s.setPos v).gpr q = s.gpr q := rfl
@[simp] theorem State.setPos_word (v : BitVec 7) (q : Reg) : (s.setPos v).word q = s.word q := rfl
@[simp] theorem State.setPos_hi (v : BitVec 7) (c : Acc) : (s.setPos v).hi c = s.hi c := rfl
@[simp] theorem State.setPos_lo (v : BitVec 7) (c : Acc) : (s.setPos v).lo c = s.lo c := rfl
@[simp] theorem State.setPos_acc (v : BitVec 7) (c : Acc) : (s.setPos v).acc c = s.acc c := rfl
@[simp] theorem State.setPos_inSlot (v : BitVec 7) : (s.setPos v).inSlot = s.inSlot := rfl
@[simp] theorem State.setPos_readByte (v : BitVec 7) (y : Addr) : (s.setPos v).readByte y = s.readByte y := rfl

@[simp] theorem State.setCarry_gprs (v : BitVec 1) : (s.setCarry v).gprs = s.gprs := rfl
@[simp] theorem State.setCarry_pc (v : BitVec 1) : (s.setCarry v).pc = s.pc := rfl
@[simp] theorem State.setCarry_accs (v : BitVec 1) : (s.setCarry v).accs = s.accs := rfl
@[simp] theorem State.setCarry_dspControl (v : BitVec 1) : (s.setCarry v).dspControl = setBits s.dspControl 13 v := rfl
@[simp] theorem State.setCarry_dspEnabled (v : BitVec 1) : (s.setCarry v).dspEnabled = s.dspEnabled := rfl
@[simp] theorem State.setCarry_ac0Unread (v : BitVec 1) : (s.setCarry v).ac0Unread = s.ac0Unread := rfl
@[simp] theorem State.setCarry_slot (v : BitVec 1) : (s.setCarry v).slot = s.slot := rfl
@[simp] theorem State.setCarry_delayed (v : BitVec 1) : (s.setCarry v).delayed = s.delayed := rfl
@[simp] theorem State.setCarry_mem (v : BitVec 1) : (s.setCarry v).mem = s.mem := rfl
@[simp] theorem State.setCarry_params (v : BitVec 1) : (s.setCarry v).params = s.params := rfl
@[simp] theorem State.setCarry_draws (v : BitVec 1) : (s.setCarry v).draws = s.draws := rfl
@[simp] theorem State.setCarry_gpr (v : BitVec 1) (q : Reg) : (s.setCarry v).gpr q = s.gpr q := rfl
@[simp] theorem State.setCarry_word (v : BitVec 1) (q : Reg) : (s.setCarry v).word q = s.word q := rfl
@[simp] theorem State.setCarry_hi (v : BitVec 1) (c : Acc) : (s.setCarry v).hi c = s.hi c := rfl
@[simp] theorem State.setCarry_lo (v : BitVec 1) (c : Acc) : (s.setCarry v).lo c = s.lo c := rfl
@[simp] theorem State.setCarry_acc (v : BitVec 1) (c : Acc) : (s.setCarry v).acc c = s.acc c := rfl
@[simp] theorem State.setCarry_inSlot (v : BitVec 1) : (s.setCarry v).inSlot = s.inSlot := rfl
@[simp] theorem State.setCarry_readByte (v : BitVec 1) (y : Addr) : (s.setCarry v).readByte y = s.readByte y := rfl

@[simp] theorem State.setEfi_gprs (v : BitVec 1) : (s.setEfi v).gprs = s.gprs := rfl
@[simp] theorem State.setEfi_pc (v : BitVec 1) : (s.setEfi v).pc = s.pc := rfl
@[simp] theorem State.setEfi_accs (v : BitVec 1) : (s.setEfi v).accs = s.accs := rfl
@[simp] theorem State.setEfi_dspControl (v : BitVec 1) : (s.setEfi v).dspControl = setBits s.dspControl 14 v := rfl
@[simp] theorem State.setEfi_dspEnabled (v : BitVec 1) : (s.setEfi v).dspEnabled = s.dspEnabled := rfl
@[simp] theorem State.setEfi_ac0Unread (v : BitVec 1) : (s.setEfi v).ac0Unread = s.ac0Unread := rfl
@[simp] theorem State.setEfi_slot (v : BitVec 1) : (s.setEfi v).slot = s.slot := rfl
@[simp] theorem State.setEfi_delayed (v : BitVec 1) : (s.setEfi v).delayed = s.delayed := rfl
@[simp] theorem State.setEfi_mem (v : BitVec 1) : (s.setEfi v).mem = s.mem := rfl
@[simp] theorem State.setEfi_params (v : BitVec 1) : (s.setEfi v).params = s.params := rfl
@[simp] theorem State.setEfi_draws (v : BitVec 1) : (s.setEfi v).draws = s.draws := rfl
@[simp] theorem State.setEfi_gpr (v : BitVec 1) (q : Reg) : (s.setEfi v).gpr q = s.gpr q := rfl
@[simp] theorem State.setEfi_word (v : BitVec 1) (q : Reg) : (s.setEfi v).word q = s.word q := rfl
@[simp] theorem State.setEfi_hi (v : BitVec 1) (c : Acc) : (s.setEfi v).hi c = s.hi c := rfl
@[simp] theorem State.setEfi_lo (v : BitVec 1) (c : Acc) : (s.setEfi v).lo c = s.lo c := rfl
@[simp] theorem State.setEfi_acc (v : BitVec 1) (c : Acc) : (s.setEfi v).acc c = s.acc c := rfl
@[simp] theorem State.setEfi_inSlot (v : BitVec 1) : (s.setEfi v).inSlot = s.inSlot := rfl
@[simp] theorem State.setEfi_readByte (v : BitVec 1) (y : Addr) : (s.setEfi v).readByte y = s.readByte y := rfl

@[simp] theorem State.setCcond_gprs (v : BitVec 8) : (s.setCcond v).gprs = s.gprs := rfl
@[simp] theorem State.setCcond_pc (v : BitVec 8) : (s.setCcond v).pc = s.pc := rfl
@[simp] theorem State.setCcond_accs (v : BitVec 8) : (s.setCcond v).accs = s.accs := rfl
@[simp] theorem State.setCcond_dspControl (v : BitVec 8) : (s.setCcond v).dspControl = setBits s.dspControl 24 v := rfl
@[simp] theorem State.setCcond_dspEnabled (v : BitVec 8) : (s.setCcond v).dspEnabled = s.dspEnabled := rfl
@[simp] theorem State.setCcond_ac0Unread (v : BitVec 8) : (s.setCcond v).ac0Unread = s.ac0Unread := rfl
@[simp] theorem State.setCcond_slot (v : BitVec 8) : (s.setCcond v).slot = s.slot := rfl
@[simp] theorem State.setCcond_delayed (v : BitVec 8) : (s.setCcond v).delayed = s.delayed := rfl
@[simp] theorem State.setCcond_mem (v : BitVec 8) : (s.setCcond v).mem = s.mem := rfl
@[simp] theorem State.setCcond_params (v : BitVec 8) : (s.setCcond v).params = s.params := rfl
@[simp] theorem State.setCcond_draws (v : BitVec 8) : (s.setCcond v).draws = s.draws := rfl
@[simp] theorem State.setCcond_gpr (v : BitVec 8) (q : Reg) : (s.setCcond v).gpr q = s.gpr q := rfl
@[simp] theorem State.setCcond_word (v : BitVec 8) (q : Reg) : (s.setCcond v).word q = s.word q := rfl
@[simp] theorem State.setCcond_hi (v : BitVec 8) (c : Acc) : (s.setCcond v).hi c = s.hi c := rfl
@[simp] theorem State.setCcond_lo (v : BitVec 8) (c : Acc) : (s.setCcond v).lo c = s.lo c := rfl
@[simp] theorem State.setCcond_acc (v : BitVec 8) (c : Acc) : (s.setCcond v).acc c = s.acc c := rfl
@[simp] theorem State.setCcond_inSlot (v : BitVec 8) : (s.setCcond v).inSlot = s.inSlot := rfl
@[simp] theorem State.setCcond_readByte (v : BitVec 8) (y : Addr) : (s.setCcond v).readByte y = s.readByte y := rfl

@[simp] theorem State.raiseOuflag_gprs (n : Nat) (c : Bool) : (s.raiseOuflag n c).gprs = s.gprs := rfl
@[simp] theorem State.raiseOuflag_pc (n : Nat) (c : Bool) : (s.raiseOuflag n c).pc = s.pc := rfl
@[simp] theorem State.raiseOuflag_accs (n : Nat) (c : Bool) : (s.raiseOuflag n c).accs = s.accs := rfl
@[simp] theorem State.raiseOuflag_dspControl (n : Nat) (c : Bool) :
    (s.raiseOuflag n c).dspControl = if c then setBits s.dspControl n 1#1 else s.dspControl := rfl
@[simp] theorem State.raiseOuflag_dspEnabled (n : Nat) (c : Bool) : (s.raiseOuflag n c).dspEnabled = s.dspEnabled := rfl
@[simp] theorem State.raiseOuflag_ac0Unread (n : Nat) (c : Bool) : (s.raiseOuflag n c).ac0Unread = s.ac0Unread := rfl
@[simp] theorem State.raiseOuflag_slot (n : Nat) (c : Bool) : (s.raiseOuflag n c).slot = s.slot := rfl
@[simp] theorem State.raiseOuflag_delayed (n : Nat) (c : Bool) : (s.raiseOuflag n c).delayed = s.delayed := rfl
@[simp] theorem State.raiseOuflag_mem (n : Nat) (c : Bool) : (s.raiseOuflag n c).mem = s.mem := rfl
@[simp] theorem State.raiseOuflag_params (n : Nat) (c : Bool) : (s.raiseOuflag n c).params = s.params := rfl
@[simp] theorem State.raiseOuflag_draws (n : Nat) (c : Bool) : (s.raiseOuflag n c).draws = s.draws := rfl
@[simp] theorem State.raiseOuflag_gpr (n : Nat) (c : Bool) (q : Reg) : (s.raiseOuflag n c).gpr q = s.gpr q := rfl
@[simp] theorem State.raiseOuflag_word (n : Nat) (c : Bool) (q : Reg) : (s.raiseOuflag n c).word q = s.word q := rfl
@[simp] theorem State.raiseOuflag_hi (n : Nat) (c : Bool) (k : Acc) : (s.raiseOuflag n c).hi k = s.hi k := rfl
@[simp] theorem State.raiseOuflag_lo (n : Nat) (c : Bool) (k : Acc) : (s.raiseOuflag n c).lo k = s.lo k := rfl
@[simp] theorem State.raiseOuflag_acc (n : Nat) (c : Bool) (k : Acc) : (s.raiseOuflag n c).acc k = s.acc k := rfl
@[simp] theorem State.raiseOuflag_inSlot (n : Nat) (c : Bool) : (s.raiseOuflag n c).inSlot = s.inSlot := rfl
@[simp] theorem State.raiseOuflag_readByte (n : Nat) (c : Bool) (y : Addr) :
    (s.raiseOuflag n c).readByte y = s.readByte y := rfl

@[simp] theorem State.drawn_gprs (k : Nat) : (s.drawn k).gprs = s.gprs := rfl
@[simp] theorem State.drawn_pc (k : Nat) : (s.drawn k).pc = s.pc := rfl
@[simp] theorem State.drawn_accs (k : Nat) : (s.drawn k).accs = s.accs := rfl
@[simp] theorem State.drawn_dspControl (k : Nat) : (s.drawn k).dspControl = s.dspControl := rfl
@[simp] theorem State.drawn_dspEnabled (k : Nat) : (s.drawn k).dspEnabled = s.dspEnabled := rfl
@[simp] theorem State.drawn_ac0Unread (k : Nat) : (s.drawn k).ac0Unread = s.ac0Unread := rfl
@[simp] theorem State.drawn_slot (k : Nat) : (s.drawn k).slot = s.slot := rfl
@[simp] theorem State.drawn_delayed (k : Nat) : (s.drawn k).delayed = s.delayed := rfl
@[simp] theorem State.drawn_mem (k : Nat) : (s.drawn k).mem = s.mem := rfl
@[simp] theorem State.drawn_params (k : Nat) : (s.drawn k).params = s.params := rfl
@[simp] theorem State.drawn_draws (k : Nat) : (s.drawn k).draws = s.draws + k := rfl
@[simp] theorem State.drawn_gpr (k : Nat) (q : Reg) : (s.drawn k).gpr q = s.gpr q := rfl
@[simp] theorem State.drawn_word (k : Nat) (q : Reg) : (s.drawn k).word q = s.word q := rfl
@[simp] theorem State.drawn_hi (k : Nat) (c : Acc) : (s.drawn k).hi c = s.hi c := rfl
@[simp] theorem State.drawn_lo (k : Nat) (c : Acc) : (s.drawn k).lo c = s.lo c := rfl
@[simp] theorem State.drawn_acc (k : Nat) (c : Acc) : (s.drawn k).acc c = s.acc c := rfl
@[simp] theorem State.drawn_pos (k : Nat) : (s.drawn k).pos = s.pos := rfl
@[simp] theorem State.drawn_scount (k : Nat) : (s.drawn k).scount = s.scount := rfl
@[simp] theorem State.drawn_carry (k : Nat) : (s.drawn k).carry = s.carry := rfl
@[simp] theorem State.drawn_efi (k : Nat) : (s.drawn k).efi = s.efi := rfl
@[simp] theorem State.drawn_ouflag (k : Nat) : (s.drawn k).ouflag = s.ouflag := rfl
@[simp] theorem State.drawn_ccond (k : Nat) : (s.drawn k).ccond = s.ccond := rfl
@[simp] theorem State.drawn_inSlot (k : Nat) : (s.drawn k).inSlot = s.inSlot := rfl
@[simp] theorem State.drawn_readByte (k : Nat) (y : Addr) : (s.drawn k).readByte y = s.readByte y := rfl

@[simp] theorem State.setGprAny_gprs (r : Reg) :
    (s.setGprAny r).gprs = if r = 0 then s.gprs else s.gprs.set r (s.any 64 0) := rfl
@[simp] theorem State.setGprAny_pc (r : Reg) : (s.setGprAny r).pc = s.pc := rfl
@[simp] theorem State.setGprAny_accs (r : Reg) : (s.setGprAny r).accs = s.accs := rfl
@[simp] theorem State.setGprAny_dspControl (r : Reg) : (s.setGprAny r).dspControl = s.dspControl := rfl
@[simp] theorem State.setGprAny_dspEnabled (r : Reg) : (s.setGprAny r).dspEnabled = s.dspEnabled := rfl
@[simp] theorem State.setGprAny_ac0Unread (r : Reg) : (s.setGprAny r).ac0Unread = s.ac0Unread := rfl
@[simp] theorem State.setGprAny_slot (r : Reg) : (s.setGprAny r).slot = s.slot := rfl
@[simp] theorem State.setGprAny_delayed (r : Reg) : (s.setGprAny r).delayed = s.delayed := rfl
@[simp] theorem State.setGprAny_mem (r : Reg) : (s.setGprAny r).mem = s.mem := rfl
@[simp] theorem State.setGprAny_params (r : Reg) : (s.setGprAny r).params = s.params := rfl
@[simp] theorem State.setGprAny_draws (r : Reg) : (s.setGprAny r).draws = s.draws + 1 := rfl
@[simp] theorem State.setGprAny_hi (r : Reg) (c : Acc) : (s.setGprAny r).hi c = s.hi c := rfl
@[simp] theorem State.setGprAny_lo (r : Reg) (c : Acc) : (s.setGprAny r).lo c = s.lo c := rfl
@[simp] theorem State.setGprAny_acc (r : Reg) (c : Acc) : (s.setGprAny r).acc c = s.acc c := rfl
@[simp] theorem State.setGprAny_pos (r : Reg) : (s.setGprAny r).pos = s.pos := rfl
@[simp] theorem State.setGprAny_scount (r : Reg) : (s.setGprAny r).scount = s.scount := rfl
@[simp] theorem State.setGprAny_carry (r : Reg) : (s.setGprAny r).carry = s.carry := rfl
@[simp] theorem State.setGprAny_efi (r : Reg) : (s.setGprAny r).efi = s.efi := rfl
@[simp] theorem State.setGprAny_ouflag (r : Reg) : (s.setGprAny r).ouflag = s.ouflag := rfl
@[simp] theorem State.setGprAny_ccond (r : Reg) : (s.setGprAny r).ccond = s.ccond := rfl
@[simp] theorem State.setGprAny_inSlot (r : Reg) : (s.setGprAny r).inSlot = s.inSlot := rfl
@[simp] theorem State.setGprAny_readByte (r : Reg) (y : Addr) : (s.setGprAny r).readByte y = s.readByte y := rfl

@[simp] theorem State.setHiLoAny_gprs (a : Acc) : (s.setHiLoAny a).gprs = s.gprs := rfl
@[simp] theorem State.setHiLoAny_pc (a : Acc) : (s.setHiLoAny a).pc = s.pc := rfl
@[simp] theorem State.setHiLoAny_accs (a : Acc) : (s.setHiLoAny a).accs = s.accs.set a ⟨s.any 64 0, s.any 64 1⟩ := rfl
@[simp] theorem State.setHiLoAny_dspControl (a : Acc) : (s.setHiLoAny a).dspControl = s.dspControl := rfl
@[simp] theorem State.setHiLoAny_dspEnabled (a : Acc) : (s.setHiLoAny a).dspEnabled = s.dspEnabled := rfl
@[simp] theorem State.setHiLoAny_ac0Unread (a : Acc) : (s.setHiLoAny a).ac0Unread = s.ac0Unread := rfl
@[simp] theorem State.setHiLoAny_slot (a : Acc) : (s.setHiLoAny a).slot = s.slot := rfl
@[simp] theorem State.setHiLoAny_delayed (a : Acc) : (s.setHiLoAny a).delayed = s.delayed := rfl
@[simp] theorem State.setHiLoAny_mem (a : Acc) : (s.setHiLoAny a).mem = s.mem := rfl
@[simp] theorem State.setHiLoAny_params (a : Acc) : (s.setHiLoAny a).params = s.params := rfl
@[simp] theorem State.setHiLoAny_draws (a : Acc) : (s.setHiLoAny a).draws = s.draws + 2 := rfl
@[simp] theorem State.setHiLoAny_gpr (a : Acc) (q : Reg) : (s.setHiLoAny a).gpr q = s.gpr q := rfl
@[simp] theorem State.setHiLoAny_word (a : Acc) (q : Reg) : (s.setHiLoAny a).word q = s.word q := rfl
@[simp] theorem State.setHiLoAny_pos (a : Acc) : (s.setHiLoAny a).pos = s.pos := rfl
@[simp] theorem State.setHiLoAny_scount (a : Acc) : (s.setHiLoAny a).scount = s.scount := rfl
@[simp] theorem State.setHiLoAny_carry (a : Acc) : (s.setHiLoAny a).carry = s.carry := rfl
@[simp] theorem State.setHiLoAny_efi (a : Acc) : (s.setHiLoAny a).efi = s.efi := rfl
@[simp] theorem State.setHiLoAny_ouflag (a : Acc) : (s.setHiLoAny a).ouflag = s.ouflag := rfl
@[simp] theorem State.setHiLoAny_ccond (a : Acc) : (s.setHiLoAny a).ccond = s.ccond := rfl
@[simp] theorem State.setHiLoAny_inSlot (a : Acc) : (s.setHiLoAny a).inSlot = s.inSlot := rfl
@[simp] theorem State.setHiLoAny_readByte (a : Acc) (y : Addr) : (s.setHiLoAny a).readByte y = s.readByte y := rfl

@[simp] theorem State.setWordFlag_gprs (r : Reg) (n : Nat) (v : Flagged 32) :
    (s.setWordFlag r n v).gprs = if r = 0 then s.gprs else s.gprs.set r (v.1.signExtend 64) := rfl
@[simp] theorem State.setWordFlag_pc (r : Reg) (n : Nat) (v : Flagged 32) : (s.setWordFlag r n v).pc = s.pc := rfl
@[simp] theorem State.setWordFlag_accs (r : Reg) (n : Nat) (v : Flagged 32) : (s.setWordFlag r n v).accs = s.accs := rfl
@[simp] theorem State.setWordFlag_dspControl (r : Reg) (n : Nat) (v : Flagged 32) :
    (s.setWordFlag r n v).dspControl = if v.2 then setBits s.dspControl n 1#1 else s.dspControl := rfl
@[simp] theorem State.setWordFlag_dspEnabled (r : Reg) (n : Nat) (v : Flagged 32) :
    (s.setWordFlag r n v).dspEnabled = s.dspEnabled := rfl
@[simp] theorem State.setWordFlag_ac0Unread (r : Reg) (n : Nat) (v : Flagged 32) :
    (s.setWordFlag r n v).ac0Unread = s.ac0Unread := rfl
@[simp] theorem State.setWordFlag_slot (r : Reg) (n : Nat) (v : Flagged 32) : (s.setWordFlag r n v).slot = s.slot := rfl
@[simp] theorem State.setWordFlag_delayed (r : Reg) (n : Nat) (v : Flagged 32) :
    (s.setWordFlag r n v).delayed = s.delayed := rfl
@[simp] theorem State.setWordFlag_mem (r : Reg) (n : Nat) (v : Flagged 32) : (s.setWordFlag r n v).mem = s.mem := rfl
@[simp] theorem State.setWordFlag_params (r : Reg) (n : Nat) (v : Flagged 32) :
    (s.setWordFlag r n v).params = s.params := rfl
@[simp] theorem State.setWordFlag_draws (r : Reg) (n : Nat) (v : Flagged 32) :
    (s.setWordFlag r n v).draws = s.draws := rfl
@[simp] theorem State.setWordFlag_hi (r : Reg) (n : Nat) (v : Flagged 32) (c : Acc) :
    (s.setWordFlag r n v).hi c = s.hi c := rfl
@[simp] theorem State.setWordFlag_lo (r : Reg) (n : Nat) (v : Flagged 32) (c : Acc) :
    (s.setWordFlag r n v).lo c = s.lo c := rfl
@[simp] theorem State.setWordFlag_acc (r : Reg) (n : Nat) (v : Flagged 32) (c : Acc) :
    (s.setWordFlag r n v).acc c = s.acc c := rfl
@[simp] theorem State.setWordFlag_inSlot (r : Reg) (n : Nat) (v : Flagged 32) :
    (s.setWordFlag r n v).inSlot = s.inSlot := rfl
@[simp] theorem State.setWordFlag_readByte (r : Reg) (n : Nat) (v : Flagged 32) (y : Addr) :
    (s.setWordFlag r n v).readByte y = s.readByte y := rfl

@[simp] theorem State.setAccFlag_gprs (a : Acc) (v : Flagged 64) : (s.setAccFlag a v).gprs = s.gprs := rfl
@[simp] theorem State.setAccFlag_pc (a : Acc) (v : Flagged 64) : (s.setAccFlag a v).pc = s.pc := rfl
@[simp] theorem State.setAccFlag_accs (a : Acc) (v : Flagged 64) :
    (s.setAccFlag a v).accs = s.accs.set a ⟨(v.1.extractLsb' 32 32).signExtend 64, (v.1.extractLsb' 0 32).signExtend 64⟩ :=
  rfl
@[simp] theorem State.setAccFlag_dspControl (a : Acc) (v : Flagged 64) :
    (s.setAccFlag a v).dspControl = if v.2 then setBits s.dspControl (accFlag a) 1#1 else s.dspControl := rfl
@[simp] theorem State.setAccFlag_dspEnabled (a : Acc) (v : Flagged 64) :
    (s.setAccFlag a v).dspEnabled = s.dspEnabled := rfl
@[simp] theorem State.setAccFlag_ac0Unread (a : Acc) (v : Flagged 64) :
    (s.setAccFlag a v).ac0Unread = s.ac0Unread := rfl
@[simp] theorem State.setAccFlag_slot (a : Acc) (v : Flagged 64) : (s.setAccFlag a v).slot = s.slot := rfl
@[simp] theorem State.setAccFlag_delayed (a : Acc) (v : Flagged 64) : (s.setAccFlag a v).delayed = s.delayed := rfl
@[simp] theorem State.setAccFlag_mem (a : Acc) (v : Flagged 64) : (s.setAccFlag a v).mem = s.mem := rfl
@[simp] theorem State.setAccFlag_params (a : Acc) (v : Flagged 64) : (s.setAccFlag a v).params = s.params := rfl
@[simp] theorem State.setAccFlag_draws (a : Acc) (v : Flagged 64) : (s.setAccFlag a v).draws = s.draws := rfl
@[simp] theorem State.setAccFlag_gpr (a : Acc) (v : Flagged 64) (q : Reg) : (s.setAccFlag a v).gpr q = s.gpr q := rfl
@[simp] theorem State.setAccFlag_word (a : Acc) (v : Flagged 64) (q : Reg) : (s.setAccFlag a v).word q = s.word q := rfl
@[simp] theorem State.setAccFlag_inSlot (a : Acc) (v : Flagged 64) : (s.setAccFlag a v).inSlot = s.inSlot := rfl
@[simp] theorem State.setAccFlag_readByte (a : Acc) (v : Flagged 64) (y : Addr) :
    (s.setAccFlag a v).readByte y = s.readByte y := rfl

@[simp] theorem State.setControl_gprs (d : Word) : (s.setControl d).gprs = s.gprs := rfl
@[simp] theorem State.setControl_pc (d : Word) : (s.setControl d).pc = s.pc := rfl
@[simp] theorem State.setControl_accs (d : Word) : (s.setControl d).accs = s.accs := rfl
@[simp] theorem State.setControl_dspControl (d : Word) : (s.setControl d).dspControl = d := rfl
@[simp] theorem State.setControl_dspEnabled (d : Word) : (s.setControl d).dspEnabled = s.dspEnabled := rfl
@[simp] theorem State.setControl_ac0Unread (d : Word) : (s.setControl d).ac0Unread = s.ac0Unread := rfl
@[simp] theorem State.setControl_slot (d : Word) : (s.setControl d).slot = s.slot := rfl
@[simp] theorem State.setControl_delayed (d : Word) : (s.setControl d).delayed = s.delayed := rfl
@[simp] theorem State.setControl_mem (d : Word) : (s.setControl d).mem = s.mem := rfl
@[simp] theorem State.setControl_params (d : Word) : (s.setControl d).params = s.params := rfl
@[simp] theorem State.setControl_draws (d : Word) : (s.setControl d).draws = s.draws := rfl
@[simp] theorem State.setControl_gpr (d : Word) (q : Reg) : (s.setControl d).gpr q = s.gpr q := rfl
@[simp] theorem State.setControl_word (d : Word) (q : Reg) : (s.setControl d).word q = s.word q := rfl
@[simp] theorem State.setControl_hi (d : Word) (c : Acc) : (s.setControl d).hi c = s.hi c := rfl
@[simp] theorem State.setControl_lo (d : Word) (c : Acc) : (s.setControl d).lo c = s.lo c := rfl
@[simp] theorem State.setControl_acc (d : Word) (c : Acc) : (s.setControl d).acc c = s.acc c := rfl
@[simp] theorem State.setControl_inSlot (d : Word) : (s.setControl d).inSlot = s.inSlot := rfl
@[simp] theorem State.setControl_readByte (d : Word) (y : Addr) : (s.setControl d).readByte y = s.readByte y := rfl

@[simp] theorem State.copyLoToHi_gprs (a : Acc) (w : Word) : (s.copyLoToHi a w).gprs = s.gprs := rfl
@[simp] theorem State.copyLoToHi_pc (a : Acc) (w : Word) : (s.copyLoToHi a w).pc = s.pc := rfl
@[simp] theorem State.copyLoToHi_accs (a : Acc) (w : Word) :
    (s.copyLoToHi a w).accs = s.accs.set a ⟨((s.lo a).extractLsb' 0 32).signExtend 64, w.signExtend 64⟩ := rfl
@[simp] theorem State.copyLoToHi_dspControl (a : Acc) (w : Word) : (s.copyLoToHi a w).dspControl = s.dspControl := rfl
@[simp] theorem State.copyLoToHi_dspEnabled (a : Acc) (w : Word) : (s.copyLoToHi a w).dspEnabled = s.dspEnabled := rfl
@[simp] theorem State.copyLoToHi_ac0Unread (a : Acc) (w : Word) : (s.copyLoToHi a w).ac0Unread = s.ac0Unread := rfl
@[simp] theorem State.copyLoToHi_slot (a : Acc) (w : Word) : (s.copyLoToHi a w).slot = s.slot := rfl
@[simp] theorem State.copyLoToHi_delayed (a : Acc) (w : Word) : (s.copyLoToHi a w).delayed = s.delayed := rfl
@[simp] theorem State.copyLoToHi_mem (a : Acc) (w : Word) : (s.copyLoToHi a w).mem = s.mem := rfl
@[simp] theorem State.copyLoToHi_params (a : Acc) (w : Word) : (s.copyLoToHi a w).params = s.params := rfl
@[simp] theorem State.copyLoToHi_draws (a : Acc) (w : Word) : (s.copyLoToHi a w).draws = s.draws := rfl
@[simp] theorem State.copyLoToHi_gpr (a : Acc) (w : Word) (q : Reg) : (s.copyLoToHi a w).gpr q = s.gpr q := rfl
@[simp] theorem State.copyLoToHi_word (a : Acc) (w : Word) (q : Reg) : (s.copyLoToHi a w).word q = s.word q := rfl
@[simp] theorem State.copyLoToHi_pos (a : Acc) (w : Word) : (s.copyLoToHi a w).pos = s.pos := rfl
@[simp] theorem State.copyLoToHi_scount (a : Acc) (w : Word) : (s.copyLoToHi a w).scount = s.scount := rfl
@[simp] theorem State.copyLoToHi_carry (a : Acc) (w : Word) : (s.copyLoToHi a w).carry = s.carry := rfl
@[simp] theorem State.copyLoToHi_efi (a : Acc) (w : Word) : (s.copyLoToHi a w).efi = s.efi := rfl
@[simp] theorem State.copyLoToHi_ouflag (a : Acc) (w : Word) : (s.copyLoToHi a w).ouflag = s.ouflag := rfl
@[simp] theorem State.copyLoToHi_ccond (a : Acc) (w : Word) : (s.copyLoToHi a w).ccond = s.ccond := rfl
@[simp] theorem State.copyLoToHi_inSlot (a : Acc) (w : Word) : (s.copyLoToHi a w).inSlot = s.inSlot := rfl
@[simp] theorem State.copyLoToHi_readByte (a : Acc) (w : Word) (y : Addr) :
    (s.copyLoToHi a w).readByte y = s.readByte y := rfl

@[simp] theorem State.markAcRead_gprs (a : Acc) : (s.markAcRead a).gprs = s.gprs := rfl
@[simp] theorem State.markAcRead_pc (a : Acc) : (s.markAcRead a).pc = s.pc := rfl
@[simp] theorem State.markAcRead_accs (a : Acc) : (s.markAcRead a).accs = s.accs := rfl
@[simp] theorem State.markAcRead_dspControl (a : Acc) : (s.markAcRead a).dspControl = s.dspControl := rfl
@[simp] theorem State.markAcRead_dspEnabled (a : Acc) : (s.markAcRead a).dspEnabled = s.dspEnabled := rfl
@[simp] theorem State.markAcRead_ac0Unread (a : Acc) :
    (s.markAcRead a).ac0Unread = if a = 0 then false else s.ac0Unread := rfl
@[simp] theorem State.markAcRead_slot (a : Acc) : (s.markAcRead a).slot = s.slot := rfl
@[simp] theorem State.markAcRead_delayed (a : Acc) : (s.markAcRead a).delayed = s.delayed := rfl
@[simp] theorem State.markAcRead_mem (a : Acc) : (s.markAcRead a).mem = s.mem := rfl
@[simp] theorem State.markAcRead_params (a : Acc) : (s.markAcRead a).params = s.params := rfl
@[simp] theorem State.markAcRead_draws (a : Acc) : (s.markAcRead a).draws = s.draws := rfl
@[simp] theorem State.markAcRead_gpr (a : Acc) (q : Reg) : (s.markAcRead a).gpr q = s.gpr q := rfl
@[simp] theorem State.markAcRead_word (a : Acc) (q : Reg) : (s.markAcRead a).word q = s.word q := rfl
@[simp] theorem State.markAcRead_hi (a : Acc) (c : Acc) : (s.markAcRead a).hi c = s.hi c := rfl
@[simp] theorem State.markAcRead_lo (a : Acc) (c : Acc) : (s.markAcRead a).lo c = s.lo c := rfl
@[simp] theorem State.markAcRead_acc (a : Acc) (c : Acc) : (s.markAcRead a).acc c = s.acc c := rfl
@[simp] theorem State.markAcRead_pos (a : Acc) : (s.markAcRead a).pos = s.pos := rfl
@[simp] theorem State.markAcRead_scount (a : Acc) : (s.markAcRead a).scount = s.scount := rfl
@[simp] theorem State.markAcRead_carry (a : Acc) : (s.markAcRead a).carry = s.carry := rfl
@[simp] theorem State.markAcRead_efi (a : Acc) : (s.markAcRead a).efi = s.efi := rfl
@[simp] theorem State.markAcRead_ouflag (a : Acc) : (s.markAcRead a).ouflag = s.ouflag := rfl
@[simp] theorem State.markAcRead_ccond (a : Acc) : (s.markAcRead a).ccond = s.ccond := rfl
@[simp] theorem State.markAcRead_inSlot (a : Acc) : (s.markAcRead a).inSlot = s.inSlot := rfl
@[simp] theorem State.markAcRead_readByte (a : Acc) (y : Addr) : (s.markAcRead a).readByte y = s.readByte y := rfl

@[simp] theorem State.markAcUnread_gprs (a : Acc) : (s.markAcUnread a).gprs = s.gprs := rfl
@[simp] theorem State.markAcUnread_pc (a : Acc) : (s.markAcUnread a).pc = s.pc := rfl
@[simp] theorem State.markAcUnread_accs (a : Acc) : (s.markAcUnread a).accs = s.accs := rfl
@[simp] theorem State.markAcUnread_dspControl (a : Acc) : (s.markAcUnread a).dspControl = s.dspControl := rfl
@[simp] theorem State.markAcUnread_dspEnabled (a : Acc) : (s.markAcUnread a).dspEnabled = s.dspEnabled := rfl
@[simp] theorem State.markAcUnread_ac0Unread (a : Acc) :
    (s.markAcUnread a).ac0Unread = if a = 0 then true else s.ac0Unread := rfl
@[simp] theorem State.markAcUnread_slot (a : Acc) : (s.markAcUnread a).slot = s.slot := rfl
@[simp] theorem State.markAcUnread_delayed (a : Acc) : (s.markAcUnread a).delayed = s.delayed := rfl
@[simp] theorem State.markAcUnread_mem (a : Acc) : (s.markAcUnread a).mem = s.mem := rfl
@[simp] theorem State.markAcUnread_params (a : Acc) : (s.markAcUnread a).params = s.params := rfl
@[simp] theorem State.markAcUnread_draws (a : Acc) : (s.markAcUnread a).draws = s.draws := rfl
@[simp] theorem State.markAcUnread_gpr (a : Acc) (q : Reg) : (s.markAcUnread a).gpr q = s.gpr q := rfl
@[simp] theorem State.markAcUnread_word (a : Acc) (q : Reg) : (s.markAcUnread a).word q = s.word q := rfl
@[simp] theorem State.markAcUnread_hi (a : Acc) (c : Acc) : (s.markAcUnread a).hi c = s.hi c := rfl
@[simp] theorem State.markAcUnread_lo (a : Acc) (c : Acc) : (s.markAcUnread a).lo c = s.lo c := rfl
@[simp] theorem State.markAcUnread_acc (a : Acc) (c : Acc) : (s.markAcUnread a).acc c = s.acc c := rfl
@[simp] theorem State.markAcUnread_pos (a : Acc) : (s.markAcUnread a).pos = s.pos := rfl
@[simp] theorem State.markAcUnread_scount (a : Acc) : (s.markAcUnread a).scount = s.scount := rfl
@[simp] theorem State.markAcUnread_carry (a : Acc) : (s.markAcUnread a).carry = s.carry := rfl
@[simp] theorem State.markAcUnread_efi (a : Acc) : (s.markAcUnread a).efi = s.efi := rfl
@[simp] theorem State.markAcUnread_ouflag (a : Acc) : (s.markAcUnread a).ouflag = s.ouflag := rfl
@[simp] theorem State.markAcUnread_ccond (a : Acc) : (s.markAcUnread a).ccond = s.ccond := rfl
@[simp] theorem State.markAcUnread_inSlot (a : Acc) : (s.markAcUnread a).inSlot = s.inSlot := rfl
@[simp] theorem State.markAcUnread_readByte (a : Acc) (y : Addr) : (s.markAcUnread a).readByte y = s.readByte y := rfl

@[simp] theorem State.setCondPH_gprs (c : BitVec 2) : (s.setCondPH c).gprs = s.gprs := rfl
@[simp] theorem State.setCondPH_pc (c : BitVec 2) : (s.setCondPH c).pc = s.pc := rfl
@[simp] theorem State.setCondPH_accs (c : BitVec 2) : (s.setCondPH c).accs = s.accs := rfl
@[simp] theorem State.setCondPH_dspControl (c : BitVec 2) :
    (s.setCondPH c).dspControl = setBits s.dspControl 24 (s.any 6 0 ++ c) := rfl
@[simp] theorem State.setCondPH_dspEnabled (c : BitVec 2) : (s.setCondPH c).dspEnabled = s.dspEnabled := rfl
@[simp] theorem State.setCondPH_ac0Unread (c : BitVec 2) : (s.setCondPH c).ac0Unread = s.ac0Unread := rfl
@[simp] theorem State.setCondPH_slot (c : BitVec 2) : (s.setCondPH c).slot = s.slot := rfl
@[simp] theorem State.setCondPH_delayed (c : BitVec 2) : (s.setCondPH c).delayed = s.delayed := rfl
@[simp] theorem State.setCondPH_mem (c : BitVec 2) : (s.setCondPH c).mem = s.mem := rfl
@[simp] theorem State.setCondPH_params (c : BitVec 2) : (s.setCondPH c).params = s.params := rfl
@[simp] theorem State.setCondPH_draws (c : BitVec 2) : (s.setCondPH c).draws = s.draws + 1 := rfl
@[simp] theorem State.setCondPH_gpr (c : BitVec 2) (q : Reg) : (s.setCondPH c).gpr q = s.gpr q := rfl
@[simp] theorem State.setCondPH_word (c : BitVec 2) (q : Reg) : (s.setCondPH c).word q = s.word q := rfl
@[simp] theorem State.setCondPH_hi (c : BitVec 2) (k : Acc) : (s.setCondPH c).hi k = s.hi k := rfl
@[simp] theorem State.setCondPH_lo (c : BitVec 2) (k : Acc) : (s.setCondPH c).lo k = s.lo k := rfl
@[simp] theorem State.setCondPH_acc (c : BitVec 2) (k : Acc) : (s.setCondPH c).acc k = s.acc k := rfl
@[simp] theorem State.setCondPH_inSlot (c : BitVec 2) : (s.setCondPH c).inSlot = s.inSlot := rfl
@[simp] theorem State.setCondPH_readByte (c : BitVec 2) (y : Addr) : (s.setCondPH c).readByte y = s.readByte y := rfl

@[simp] theorem State.setCondQB_gprs (c : BitVec 4) : (s.setCondQB c).gprs = s.gprs := rfl
@[simp] theorem State.setCondQB_pc (c : BitVec 4) : (s.setCondQB c).pc = s.pc := rfl
@[simp] theorem State.setCondQB_accs (c : BitVec 4) : (s.setCondQB c).accs = s.accs := rfl
@[simp] theorem State.setCondQB_dspControl (c : BitVec 4) :
    (s.setCondQB c).dspControl = setBits s.dspControl 24 (s.any 4 0 ++ c) := rfl
@[simp] theorem State.setCondQB_dspEnabled (c : BitVec 4) : (s.setCondQB c).dspEnabled = s.dspEnabled := rfl
@[simp] theorem State.setCondQB_ac0Unread (c : BitVec 4) : (s.setCondQB c).ac0Unread = s.ac0Unread := rfl
@[simp] theorem State.setCondQB_slot (c : BitVec 4) : (s.setCondQB c).slot = s.slot := rfl
@[simp] theorem State.setCondQB_delayed (c : BitVec 4) : (s.setCondQB c).delayed = s.delayed := rfl
@[simp] theorem State.setCondQB_mem (c : BitVec 4) : (s.setCondQB c).mem = s.mem := rfl
@[simp] theorem State.setCondQB_params (c : BitVec 4) : (s.setCondQB c).params = s.params := rfl
@[simp] theorem State.setCondQB_draws (c : BitVec 4) : (s.setCondQB c).draws = s.draws + 1 := rfl
@[simp] theorem State.setCondQB_gpr (c : BitVec 4) (q : Reg) : (s.setCondQB c).gpr q = s.gpr q := rfl
@[simp] theorem State.setCondQB_word (c : BitVec 4) (q : Reg) : (s.setCondQB c).word q = s.word q := rfl
@[simp] theorem State.setCondQB_hi (c : BitVec 4) (k : Acc) : (s.setCondQB c).hi k = s.hi k := rfl
@[simp] theorem State.setCondQB_lo (c : BitVec 4) (k : Acc) : (s.setCondQB c).lo k = s.lo k := rfl
@[simp] theorem State.setCondQB_acc (c : BitVec 4) (k : Acc) : (s.setCondQB c).acc k = s.acc k := rfl
@[simp] theorem State.setCondQB_inSlot (c : BitVec 4) : (s.setCondQB c).inSlot = s.inSlot := rfl
@[simp] theorem State.setCondQB_readByte (c : BitVec 4) (y : Addr) : (s.setCondQB c).readByte y = s.readByte y := rfl

@[simp] theorem State.branchDelayed_gprs (target : Addr) : (s.branchDelayed target).gprs = s.gprs := rfl
@[simp] theorem State.branchDelayed_pc (target : Addr) : (s.branchDelayed target).pc = s.pc + 4#64 := rfl
@[simp] theorem State.branchDelayed_accs (target : Addr) : (s.branchDelayed target).accs = s.accs := rfl
@[simp] theorem State.branchDelayed_dspControl (target : Addr) :
    (s.branchDelayed target).dspControl = s.dspControl := rfl
@[simp] theorem State.branchDelayed_dspEnabled (target : Addr) :
    (s.branchDelayed target).dspEnabled = s.dspEnabled := rfl
@[simp] theorem State.branchDelayed_ac0Unread (target : Addr) : (s.branchDelayed target).ac0Unread = s.ac0Unread := rfl
@[simp] theorem State.branchDelayed_slot (target : Addr) : (s.branchDelayed target).slot = .delay := rfl
@[simp] theorem State.branchDelayed_delayed (target : Addr) :
    (s.branchDelayed target).delayed = if s.posAtLeast32 then some target else none := rfl
@[simp] theorem State.branchDelayed_mem (target : Addr) : (s.branchDelayed target).mem = s.mem := rfl
@[simp] theorem State.branchDelayed_params (target : Addr) : (s.branchDelayed target).params = s.params := rfl
@[simp] theorem State.branchDelayed_draws (target : Addr) : (s.branchDelayed target).draws = s.draws := rfl
@[simp] theorem State.branchDelayed_gpr (target : Addr) (q : Reg) : (s.branchDelayed target).gpr q = s.gpr q := rfl
@[simp] theorem State.branchDelayed_word (target : Addr) (q : Reg) : (s.branchDelayed target).word q = s.word q := rfl
@[simp] theorem State.branchDelayed_hi (target : Addr) (c : Acc) : (s.branchDelayed target).hi c = s.hi c := rfl
@[simp] theorem State.branchDelayed_lo (target : Addr) (c : Acc) : (s.branchDelayed target).lo c = s.lo c := rfl
@[simp] theorem State.branchDelayed_acc (target : Addr) (c : Acc) : (s.branchDelayed target).acc c = s.acc c := rfl
@[simp] theorem State.branchDelayed_pos (target : Addr) : (s.branchDelayed target).pos = s.pos := rfl
@[simp] theorem State.branchDelayed_scount (target : Addr) : (s.branchDelayed target).scount = s.scount := rfl
@[simp] theorem State.branchDelayed_carry (target : Addr) : (s.branchDelayed target).carry = s.carry := rfl
@[simp] theorem State.branchDelayed_efi (target : Addr) : (s.branchDelayed target).efi = s.efi := rfl
@[simp] theorem State.branchDelayed_ouflag (target : Addr) : (s.branchDelayed target).ouflag = s.ouflag := rfl
@[simp] theorem State.branchDelayed_ccond (target : Addr) : (s.branchDelayed target).ccond = s.ccond := rfl
@[simp] theorem State.branchDelayed_readByte (target : Addr) (y : Addr) :
    (s.branchDelayed target).readByte y = s.readByte y := rfl

@[simp] theorem State.branchCompact_gprs (target : Addr) : (s.branchCompact target).gprs = s.gprs := rfl
@[simp] theorem State.branchCompact_pc (target : Addr) :
    (s.branchCompact target).pc = if s.posAtLeast32 then target else s.pc + 4#64 := rfl
@[simp] theorem State.branchCompact_accs (target : Addr) : (s.branchCompact target).accs = s.accs := rfl
@[simp] theorem State.branchCompact_dspControl (target : Addr) :
    (s.branchCompact target).dspControl = s.dspControl := rfl
@[simp] theorem State.branchCompact_dspEnabled (target : Addr) :
    (s.branchCompact target).dspEnabled = s.dspEnabled := rfl
@[simp] theorem State.branchCompact_ac0Unread (target : Addr) : (s.branchCompact target).ac0Unread = s.ac0Unread := rfl
@[simp] theorem State.branchCompact_slot (target : Addr) :
    (s.branchCompact target).slot = if s.posAtLeast32 then .none else .forbidden := rfl
@[simp] theorem State.branchCompact_delayed (target : Addr) : (s.branchCompact target).delayed = none := rfl
@[simp] theorem State.branchCompact_mem (target : Addr) : (s.branchCompact target).mem = s.mem := rfl
@[simp] theorem State.branchCompact_params (target : Addr) : (s.branchCompact target).params = s.params := rfl
@[simp] theorem State.branchCompact_draws (target : Addr) : (s.branchCompact target).draws = s.draws := rfl
@[simp] theorem State.branchCompact_gpr (target : Addr) (q : Reg) : (s.branchCompact target).gpr q = s.gpr q := rfl
@[simp] theorem State.branchCompact_word (target : Addr) (q : Reg) : (s.branchCompact target).word q = s.word q := rfl
@[simp] theorem State.branchCompact_hi (target : Addr) (c : Acc) : (s.branchCompact target).hi c = s.hi c := rfl
@[simp] theorem State.branchCompact_lo (target : Addr) (c : Acc) : (s.branchCompact target).lo c = s.lo c := rfl
@[simp] theorem State.branchCompact_acc (target : Addr) (c : Acc) : (s.branchCompact target).acc c = s.acc c := rfl
@[simp] theorem State.branchCompact_pos (target : Addr) : (s.branchCompact target).pos = s.pos := rfl
@[simp] theorem State.branchCompact_scount (target : Addr) : (s.branchCompact target).scount = s.scount := rfl
@[simp] theorem State.branchCompact_carry (target : Addr) : (s.branchCompact target).carry = s.carry := rfl
@[simp] theorem State.branchCompact_efi (target : Addr) : (s.branchCompact target).efi = s.efi := rfl
@[simp] theorem State.branchCompact_ouflag (target : Addr) : (s.branchCompact target).ouflag = s.ouflag := rfl
@[simp] theorem State.branchCompact_ccond (target : Addr) : (s.branchCompact target).ccond = s.ccond := rfl
@[simp] theorem State.branchCompact_readByte (target : Addr) (y : Addr) :
    (s.branchCompact target).readByte y = s.readByte y := rfl

@[simp] theorem State.advance_gprs : s.advance.gprs = s.gprs := rfl
@[simp] theorem State.advance_pc : s.advance.pc = s.delayed.getD (s.pc + 4#64) := rfl
@[simp] theorem State.advance_accs : s.advance.accs = s.accs := rfl
@[simp] theorem State.advance_dspControl : s.advance.dspControl = s.dspControl := rfl
@[simp] theorem State.advance_dspEnabled : s.advance.dspEnabled = s.dspEnabled := rfl
@[simp] theorem State.advance_ac0Unread : s.advance.ac0Unread = s.ac0Unread := rfl
@[simp] theorem State.advance_slot : s.advance.slot = .none := rfl
@[simp] theorem State.advance_delayed : s.advance.delayed = none := rfl
@[simp] theorem State.advance_mem : s.advance.mem = s.mem := rfl
@[simp] theorem State.advance_params : s.advance.params = s.params := rfl
@[simp] theorem State.advance_draws : s.advance.draws = s.draws := rfl
@[simp] theorem State.advance_gpr (q : Reg) : (s.advance).gpr q = s.gpr q := rfl
@[simp] theorem State.advance_word (q : Reg) : (s.advance).word q = s.word q := rfl
@[simp] theorem State.advance_hi (c : Acc) : (s.advance).hi c = s.hi c := rfl
@[simp] theorem State.advance_lo (c : Acc) : (s.advance).lo c = s.lo c := rfl
@[simp] theorem State.advance_acc (c : Acc) : (s.advance).acc c = s.acc c := rfl
@[simp] theorem State.advance_pos : (s.advance).pos = s.pos := rfl
@[simp] theorem State.advance_scount : (s.advance).scount = s.scount := rfl
@[simp] theorem State.advance_carry : (s.advance).carry = s.carry := rfl
@[simp] theorem State.advance_efi : (s.advance).efi = s.efi := rfl
@[simp] theorem State.advance_ouflag : (s.advance).ouflag = s.ouflag := rfl
@[simp] theorem State.advance_ccond : (s.advance).ccond = s.ccond := rfl
@[simp] theorem State.advance_readByte (y : Addr) : (s.advance).readByte y = s.readByte y := rfl

@[simp] theorem State.resumeAfter_gprs (t : Trap) : (s.resumeAfter t).gprs = s.gprs := rfl
@[simp] theorem State.resumeAfter_pc (t : Trap) : (s.resumeAfter t).pc = t.restart := rfl
@[simp] theorem State.resumeAfter_accs (t : Trap) : (s.resumeAfter t).accs = s.accs := rfl
@[simp] theorem State.resumeAfter_dspControl (t : Trap) : (s.resumeAfter t).dspControl = s.dspControl := rfl
@[simp] theorem State.resumeAfter_dspEnabled (t : Trap) : (s.resumeAfter t).dspEnabled = s.dspEnabled := rfl
@[simp] theorem State.resumeAfter_ac0Unread (t : Trap) : (s.resumeAfter t).ac0Unread = s.ac0Unread := rfl
@[simp] theorem State.resumeAfter_slot (t : Trap) : (s.resumeAfter t).slot = .none := rfl
@[simp] theorem State.resumeAfter_delayed (t : Trap) : (s.resumeAfter t).delayed = none := rfl
@[simp] theorem State.resumeAfter_mem (t : Trap) : (s.resumeAfter t).mem = s.mem := rfl
@[simp] theorem State.resumeAfter_params (t : Trap) : (s.resumeAfter t).params = s.params := rfl
@[simp] theorem State.resumeAfter_draws (t : Trap) : (s.resumeAfter t).draws = s.draws := rfl
@[simp] theorem State.resumeAfter_gpr (t : Trap) (q : Reg) : (s.resumeAfter t).gpr q = s.gpr q := rfl
@[simp] theorem State.resumeAfter_word (t : Trap) (q : Reg) : (s.resumeAfter t).word q = s.word q := rfl
@[simp] theorem State.resumeAfter_hi (t : Trap) (c : Acc) : (s.resumeAfter t).hi c = s.hi c := rfl
@[simp] theorem State.resumeAfter_lo (t : Trap) (c : Acc) : (s.resumeAfter t).lo c = s.lo c := rfl
@[simp] theorem State.resumeAfter_acc (t : Trap) (c : Acc) : (s.resumeAfter t).acc c = s.acc c := rfl
@[simp] theorem State.resumeAfter_pos (t : Trap) : (s.resumeAfter t).pos = s.pos := rfl
@[simp] theorem State.resumeAfter_scount (t : Trap) : (s.resumeAfter t).scount = s.scount := rfl
@[simp] theorem State.resumeAfter_carry (t : Trap) : (s.resumeAfter t).carry = s.carry := rfl
@[simp] theorem State.resumeAfter_efi (t : Trap) : (s.resumeAfter t).efi = s.efi := rfl
@[simp] theorem State.resumeAfter_ouflag (t : Trap) : (s.resumeAfter t).ouflag = s.ouflag := rfl
@[simp] theorem State.resumeAfter_ccond (t : Trap) : (s.resumeAfter t).ccond = s.ccond := rfl
@[simp] theorem State.resumeAfter_readByte (t : Trap) (y : Addr) : (s.resumeAfter t).readByte y = s.readByte y := rfl

@[simp] theorem State.setDspEnabled_gprs (b : Bool) : (s.setDspEnabled b).gprs = s.gprs := rfl
@[simp] theorem State.setDspEnabled_pc (b : Bool) : (s.setDspEnabled b).pc = s.pc := rfl
@[simp] theorem State.setDspEnabled_accs (b : Bool) : (s.setDspEnabled b).accs = s.accs := rfl
@[simp] theorem State.setDspEnabled_dspControl (b : Bool) : (s.setDspEnabled b).dspControl = s.dspControl := rfl
@[simp] theorem State.setDspEnabled_dspEnabled (b : Bool) : (s.setDspEnabled b).dspEnabled = b := rfl
@[simp] theorem State.setDspEnabled_ac0Unread (b : Bool) : (s.setDspEnabled b).ac0Unread = s.ac0Unread := rfl
@[simp] theorem State.setDspEnabled_slot (b : Bool) : (s.setDspEnabled b).slot = s.slot := rfl
@[simp] theorem State.setDspEnabled_delayed (b : Bool) : (s.setDspEnabled b).delayed = s.delayed := rfl
@[simp] theorem State.setDspEnabled_mem (b : Bool) : (s.setDspEnabled b).mem = s.mem := rfl
@[simp] theorem State.setDspEnabled_params (b : Bool) : (s.setDspEnabled b).params = s.params := rfl
@[simp] theorem State.setDspEnabled_draws (b : Bool) : (s.setDspEnabled b).draws = s.draws := rfl
@[simp] theorem State.setDspEnabled_gpr (b : Bool) (q : Reg) : (s.setDspEnabled b).gpr q = s.gpr q := rfl
@[simp] theorem State.setDspEnabled_word (b : Bool) (q : Reg) : (s.setDspEnabled b).word q = s.word q := rfl
@[simp] theorem State.setDspEnabled_hi (b : Bool) (c : Acc) : (s.setDspEnabled b).hi c = s.hi c := rfl
@[simp] theorem State.setDspEnabled_lo (b : Bool) (c : Acc) : (s.setDspEnabled b).lo c = s.lo c := rfl
@[simp] theorem State.setDspEnabled_acc (b : Bool) (c : Acc) : (s.setDspEnabled b).acc c = s.acc c := rfl
@[simp] theorem State.setDspEnabled_pos (b : Bool) : (s.setDspEnabled b).pos = s.pos := rfl
@[simp] theorem State.setDspEnabled_scount (b : Bool) : (s.setDspEnabled b).scount = s.scount := rfl
@[simp] theorem State.setDspEnabled_carry (b : Bool) : (s.setDspEnabled b).carry = s.carry := rfl
@[simp] theorem State.setDspEnabled_efi (b : Bool) : (s.setDspEnabled b).efi = s.efi := rfl
@[simp] theorem State.setDspEnabled_ouflag (b : Bool) : (s.setDspEnabled b).ouflag = s.ouflag := rfl
@[simp] theorem State.setDspEnabled_ccond (b : Bool) : (s.setDspEnabled b).ccond = s.ccond := rfl
@[simp] theorem State.setDspEnabled_inSlot (b : Bool) : (s.setDspEnabled b).inSlot = s.inSlot := rfl
@[simp] theorem State.setDspEnabled_readByte (b : Bool) (y : Addr) :
    (s.setDspEnabled b).readByte y = s.readByte y := rfl

@[simp] theorem State.storeByte_gprs (x : Addr) (b : Byte) : (s.storeByte x b).gprs = s.gprs := rfl
@[simp] theorem State.storeByte_pc (x : Addr) (b : Byte) : (s.storeByte x b).pc = s.pc := rfl
@[simp] theorem State.storeByte_accs (x : Addr) (b : Byte) : (s.storeByte x b).accs = s.accs := rfl
@[simp] theorem State.storeByte_dspControl (x : Addr) (b : Byte) : (s.storeByte x b).dspControl = s.dspControl := rfl
@[simp] theorem State.storeByte_dspEnabled (x : Addr) (b : Byte) : (s.storeByte x b).dspEnabled = s.dspEnabled := rfl
@[simp] theorem State.storeByte_ac0Unread (x : Addr) (b : Byte) : (s.storeByte x b).ac0Unread = s.ac0Unread := rfl
@[simp] theorem State.storeByte_slot (x : Addr) (b : Byte) : (s.storeByte x b).slot = s.slot := rfl
@[simp] theorem State.storeByte_delayed (x : Addr) (b : Byte) : (s.storeByte x b).delayed = s.delayed := rfl
@[simp] theorem State.storeByte_mem (x : Addr) (b : Byte) : (s.storeByte x b).mem = Memory.write s.mem x.toNat b := rfl
@[simp] theorem State.storeByte_params (x : Addr) (b : Byte) : (s.storeByte x b).params = s.params := rfl
@[simp] theorem State.storeByte_draws (x : Addr) (b : Byte) : (s.storeByte x b).draws = s.draws := rfl
@[simp] theorem State.storeByte_gpr (x : Addr) (b : Byte) (q : Reg) : (s.storeByte x b).gpr q = s.gpr q := rfl
@[simp] theorem State.storeByte_word (x : Addr) (b : Byte) (q : Reg) : (s.storeByte x b).word q = s.word q := rfl
@[simp] theorem State.storeByte_hi (x : Addr) (b : Byte) (c : Acc) : (s.storeByte x b).hi c = s.hi c := rfl
@[simp] theorem State.storeByte_lo (x : Addr) (b : Byte) (c : Acc) : (s.storeByte x b).lo c = s.lo c := rfl
@[simp] theorem State.storeByte_acc (x : Addr) (b : Byte) (c : Acc) : (s.storeByte x b).acc c = s.acc c := rfl
@[simp] theorem State.storeByte_pos (x : Addr) (b : Byte) : (s.storeByte x b).pos = s.pos := rfl
@[simp] theorem State.storeByte_scount (x : Addr) (b : Byte) : (s.storeByte x b).scount = s.scount := rfl
@[simp] theorem State.storeByte_carry (x : Addr) (b : Byte) : (s.storeByte x b).carry = s.carry := rfl
@[simp] theorem State.storeByte_efi (x : Addr) (b : Byte) : (s.storeByte x b).efi = s.efi := rfl
@[simp] theorem State.storeByte_ouflag (x : Addr) (b : Byte) : (s.storeByte x b).ouflag = s.ouflag := rfl
@[simp] theorem State.storeByte_ccond (x : Addr) (b : Byte) : (s.storeByte x b).ccond = s.ccond := rfl
@[simp] theorem State.storeByte_inSlot (x : Addr) (b : Byte) : (s.storeByte x b).inSlot = s.inSlot := rfl

@[simp] theorem State.storeWord_gprs (x : Addr) (w : Word) : (s.storeWord x w).gprs = s.gprs := rfl
@[simp] theorem State.storeWord_pc (x : Addr) (w : Word) : (s.storeWord x w).pc = s.pc := rfl
@[simp] theorem State.storeWord_accs (x : Addr) (w : Word) : (s.storeWord x w).accs = s.accs := rfl
@[simp] theorem State.storeWord_dspControl (x : Addr) (w : Word) : (s.storeWord x w).dspControl = s.dspControl := rfl
@[simp] theorem State.storeWord_dspEnabled (x : Addr) (w : Word) : (s.storeWord x w).dspEnabled = s.dspEnabled := rfl
@[simp] theorem State.storeWord_ac0Unread (x : Addr) (w : Word) : (s.storeWord x w).ac0Unread = s.ac0Unread := rfl
@[simp] theorem State.storeWord_slot (x : Addr) (w : Word) : (s.storeWord x w).slot = s.slot := rfl
@[simp] theorem State.storeWord_delayed (x : Addr) (w : Word) : (s.storeWord x w).delayed = s.delayed := rfl
@[simp] theorem State.storeWord_params (x : Addr) (w : Word) : (s.storeWord x w).params = s.params := rfl
@[simp] theorem State.storeWord_draws (x : Addr) (w : Word) : (s.storeWord x w).draws = s.draws := rfl
@[simp] theorem State.storeWord_gpr (x : Addr) (w : Word) (q : Reg) : (s.storeWord x w).gpr q = s.gpr q := rfl
@[simp] theorem State.storeWord_word (x : Addr) (w : Word) (q : Reg) : (s.storeWord x w).word q = s.word q := rfl
@[simp] theorem State.storeWord_hi (x : Addr) (w : Word) (c : Acc) : (s.storeWord x w).hi c = s.hi c := rfl
@[simp] theorem State.storeWord_lo (x : Addr) (w : Word) (c : Acc) : (s.storeWord x w).lo c = s.lo c := rfl
@[simp] theorem State.storeWord_acc (x : Addr) (w : Word) (c : Acc) : (s.storeWord x w).acc c = s.acc c := rfl
@[simp] theorem State.storeWord_pos (x : Addr) (w : Word) : (s.storeWord x w).pos = s.pos := rfl
@[simp] theorem State.storeWord_scount (x : Addr) (w : Word) : (s.storeWord x w).scount = s.scount := rfl
@[simp] theorem State.storeWord_carry (x : Addr) (w : Word) : (s.storeWord x w).carry = s.carry := rfl
@[simp] theorem State.storeWord_efi (x : Addr) (w : Word) : (s.storeWord x w).efi = s.efi := rfl
@[simp] theorem State.storeWord_ouflag (x : Addr) (w : Word) : (s.storeWord x w).ouflag = s.ouflag := rfl
@[simp] theorem State.storeWord_ccond (x : Addr) (w : Word) : (s.storeWord x w).ccond = s.ccond := rfl
@[simp] theorem State.storeWord_inSlot (x : Addr) (w : Word) : (s.storeWord x w).inSlot = s.inSlot := rfl

@[simp] theorem State.extract_pc (r : Reg) (f : Option DWord) (g : DWord → DWord) (d : Option Nat) :
    (s.extract r f g d).pc = s.pc := by unfold State.extract; split <;> rfl
@[simp] theorem State.extract_accs (r : Reg) (f : Option DWord) (g : DWord → DWord) (d : Option Nat) :
    (s.extract r f g d).accs = s.accs := by unfold State.extract; split <;> rfl
@[simp] theorem State.extract_dspEnabled (r : Reg) (f : Option DWord) (g : DWord → DWord) (d : Option Nat) :
    (s.extract r f g d).dspEnabled = s.dspEnabled := by unfold State.extract; split <;> rfl
@[simp] theorem State.extract_ac0Unread (r : Reg) (f : Option DWord) (g : DWord → DWord) (d : Option Nat) :
    (s.extract r f g d).ac0Unread = s.ac0Unread := by unfold State.extract; split <;> rfl
@[simp] theorem State.extract_slot (r : Reg) (f : Option DWord) (g : DWord → DWord) (d : Option Nat) :
    (s.extract r f g d).slot = s.slot := by unfold State.extract; split <;> rfl
@[simp] theorem State.extract_delayed (r : Reg) (f : Option DWord) (g : DWord → DWord) (d : Option Nat) :
    (s.extract r f g d).delayed = s.delayed := by unfold State.extract; split <;> rfl
@[simp] theorem State.extract_mem (r : Reg) (f : Option DWord) (g : DWord → DWord) (d : Option Nat) :
    (s.extract r f g d).mem = s.mem := by unfold State.extract; split <;> rfl
@[simp] theorem State.extract_params (r : Reg) (f : Option DWord) (g : DWord → DWord) (d : Option Nat) :
    (s.extract r f g d).params = s.params := by unfold State.extract; split <;> rfl
@[simp] theorem State.extract_hi (r : Reg) (f : Option DWord) (g : DWord → DWord) (d : Option Nat) (c : Acc) :
    (s.extract r f g d).hi c = s.hi c := by unfold State.extract; split <;> rfl
@[simp] theorem State.extract_lo (r : Reg) (f : Option DWord) (g : DWord → DWord) (d : Option Nat) (c : Acc) :
    (s.extract r f g d).lo c = s.lo c := by unfold State.extract; split <;> rfl
@[simp] theorem State.extract_acc (r : Reg) (f : Option DWord) (g : DWord → DWord) (d : Option Nat) (c : Acc) :
    (s.extract r f g d).acc c = s.acc c := by unfold State.extract; split <;> rfl
@[simp] theorem State.extract_inSlot (r : Reg) (f : Option DWord) (g : DWord → DWord) (d : Option Nat) :
    (s.extract r f g d).inSlot = s.inSlot := by unfold State.extract; split <;> rfl
@[simp] theorem State.extract_readByte (r : Reg) (f : Option DWord) (g : DWord → DWord) (d : Option Nat) (y : Addr) :
    (s.extract r f g d).readByte y = s.readByte y := by unfold State.extract; split <;> rfl

@[simp] theorem State.setAccWords_gprs (a : Acc) (p q : Reg) (v : DWord) :
    (s.setAccWords a p q v).gprs = s.gprs := by unfold State.setAccWords; split <;> rfl
@[simp] theorem State.setAccWords_pc (a : Acc) (p q : Reg) (v : DWord) :
    (s.setAccWords a p q v).pc = s.pc := by unfold State.setAccWords; split <;> rfl
@[simp] theorem State.setAccWords_dspControl (a : Acc) (p q : Reg) (v : DWord) :
    (s.setAccWords a p q v).dspControl = s.dspControl := by unfold State.setAccWords; split <;> rfl
@[simp] theorem State.setAccWords_dspEnabled (a : Acc) (p q : Reg) (v : DWord) :
    (s.setAccWords a p q v).dspEnabled = s.dspEnabled := by unfold State.setAccWords; split <;> rfl
@[simp] theorem State.setAccWords_ac0Unread (a : Acc) (p q : Reg) (v : DWord) :
    (s.setAccWords a p q v).ac0Unread = s.ac0Unread := by unfold State.setAccWords; split <;> rfl
@[simp] theorem State.setAccWords_slot (a : Acc) (p q : Reg) (v : DWord) :
    (s.setAccWords a p q v).slot = s.slot := by unfold State.setAccWords; split <;> rfl
@[simp] theorem State.setAccWords_delayed (a : Acc) (p q : Reg) (v : DWord) :
    (s.setAccWords a p q v).delayed = s.delayed := by unfold State.setAccWords; split <;> rfl
@[simp] theorem State.setAccWords_mem (a : Acc) (p q : Reg) (v : DWord) :
    (s.setAccWords a p q v).mem = s.mem := by unfold State.setAccWords; split <;> rfl
@[simp] theorem State.setAccWords_params (a : Acc) (p q : Reg) (v : DWord) :
    (s.setAccWords a p q v).params = s.params := by unfold State.setAccWords; split <;> rfl
@[simp] theorem State.setAccWords_gpr (a : Acc) (p q : Reg) (v : DWord) (i : Reg) :
    (s.setAccWords a p q v).gpr i = s.gpr i := by unfold State.setAccWords; split <;> rfl
@[simp] theorem State.setAccWords_word (a : Acc) (p q : Reg) (v : DWord) (i : Reg) :
    (s.setAccWords a p q v).word i = s.word i := by unfold State.setAccWords; split <;> rfl
@[simp] theorem State.setAccWords_pos (a : Acc) (p q : Reg) (v : DWord) :
    (s.setAccWords a p q v).pos = s.pos := by unfold State.setAccWords; split <;> rfl
@[simp] theorem State.setAccWords_scount (a : Acc) (p q : Reg) (v : DWord) :
    (s.setAccWords a p q v).scount = s.scount := by unfold State.setAccWords; split <;> rfl
@[simp] theorem State.setAccWords_carry (a : Acc) (p q : Reg) (v : DWord) :
    (s.setAccWords a p q v).carry = s.carry := by unfold State.setAccWords; split <;> rfl
@[simp] theorem State.setAccWords_efi (a : Acc) (p q : Reg) (v : DWord) :
    (s.setAccWords a p q v).efi = s.efi := by unfold State.setAccWords; split <;> rfl
@[simp] theorem State.setAccWords_ouflag (a : Acc) (p q : Reg) (v : DWord) :
    (s.setAccWords a p q v).ouflag = s.ouflag := by unfold State.setAccWords; split <;> rfl
@[simp] theorem State.setAccWords_ccond (a : Acc) (p q : Reg) (v : DWord) :
    (s.setAccWords a p q v).ccond = s.ccond := by unfold State.setAccWords; split <;> rfl
@[simp] theorem State.setAccWords_inSlot (a : Acc) (p q : Reg) (v : DWord) :
    (s.setAccWords a p q v).inSlot = s.inSlot := by unfold State.setAccWords; split <;> rfl
@[simp] theorem State.setAccWords_readByte (a : Acc) (p q : Reg) (v : DWord) (y : Addr) :
    (s.setAccWords a p q v).readByte y = s.readByte y := by unfold State.setAccWords; split <;> rfl

end Sys2Proof.Machine
end

