-- ==== Sys2Proof/Laws/Ops.lean ====
section
/-!
SUPPORT. One lemma per shared operation: what a register, accumulator or control write leaves to be read, and every way
in which the frames of an ordinary instruction, a load and a branch can end.
-/

namespace Sys2Proof.Machine

open Sys2Proof.Config

/-! ### Registers and accumulators -/

theorem State.gpr_zero (s : State) : s.gpr 0 = 0#64 := rfl

theorem State.gpr_eq (s : State) (r : Reg) : s.gpr r = if r = 0 then 0#64 else s.gprs.get r := rfl

theorem State.gpr_setGpr (s : State) (r q : Reg) (v : DWord) :
    (s.setGpr r v).gpr q = if q = r ∧ r ≠ 0 then v else s.gpr q := by
  by_cases hr : r = 0
  · simp [State.gpr, hr]
  · by_cases hq : q = r
    · subst hq; simp [State.gpr, hr, Vector.get_eq_getElem]
    · have : r.val ≠ q.val := fun h => hq (Fin.ext h.symm)
      simp [State.gpr, hr, hq, Vector.get_eq_getElem, this]

theorem State.hi_setHiLo (s : State) (a b : Acc) (h l : DWord) :
    (s.setHiLo a h l).hi b = if b = a then h else s.hi b := by
  by_cases hb : b = a
  · subst hb; simp [State.hi, Vector.get_eq_getElem]
  · have : a.val ≠ b.val := fun h => hb (Fin.ext h.symm)
    simp [State.hi, hb, Vector.get_eq_getElem, this]

theorem State.lo_setHiLo (s : State) (a b : Acc) (h l : DWord) :
    (s.setHiLo a h l).lo b = if b = a then l else s.lo b := by
  by_cases hb : b = a
  · subst hb; simp [State.lo, Vector.get_eq_getElem]
  · have : a.val ≠ b.val := fun h => hb (Fin.ext h.symm)
    simp [State.lo, hb, Vector.get_eq_getElem, this]

/-- The composite writes leave to be read what the writes they are made of leave. -/
theorem State.gpr_setWord (s : State) (r q : Reg) (w : Word) :
    (s.setWord r w).gpr q = if q = r ∧ r ≠ 0 then w.signExtend 64 else s.gpr q :=
  s.gpr_setGpr r q _

theorem State.gpr_setWordFlag (s : State) (r q : Reg) (n : Nat) (v : Flagged 32) :
    (s.setWordFlag r n v).gpr q = if q = r ∧ r ≠ 0 then v.1.signExtend 64 else s.gpr q :=
  (s.raiseOuflag n v.2).gpr_setGpr r q _

theorem State.gpr_setGprAny (s : State) (r q : Reg) :
    (s.setGprAny r).gpr q = if q = r ∧ r ≠ 0 then s.any 64 0 else s.gpr q :=
  s.gpr_setGpr r q _

theorem State.hi_setAcc (s : State) (a b : Acc) (v : DWord) :
    (s.setAcc a v).hi b = if b = a then (v.extractLsb' 32 32).signExtend 64 else s.hi b :=
  s.hi_setHiLo a b _ _

theorem State.lo_setAcc (s : State) (a b : Acc) (v : DWord) :
    (s.setAcc a v).lo b = if b = a then (v.extractLsb' 0 32).signExtend 64 else s.lo b :=
  s.lo_setHiLo a b _ _

theorem State.hi_setAccFlag (s : State) (a b : Acc) (v : Flagged 64) :
    (s.setAccFlag a v).hi b = if b = a then (v.1.extractLsb' 32 32).signExtend 64 else s.hi b :=
  s.hi_setHiLo a b _ _

theorem State.lo_setAccFlag (s : State) (a b : Acc) (v : Flagged 64) :
    (s.setAccFlag a v).lo b = if b = a then (v.1.extractLsb' 0 32).signExtend 64 else s.lo b :=
  s.lo_setHiLo a b _ _

theorem State.hi_setHiLoAny (s : State) (a b : Acc) :
    (s.setHiLoAny a).hi b = if b = a then s.any 64 0 else s.hi b :=
  s.hi_setHiLo a b _ _

theorem State.lo_setHiLoAny (s : State) (a b : Acc) :
    (s.setHiLoAny a).lo b = if b = a then s.any 64 1 else s.lo b :=
  s.lo_setHiLo a b _ _

/-! ### Bits of `DSPControl` -/

/-- Replacing `n` bits from `lo` replaces exactly those. -/
theorem getLsbD_setBits (d : Word) (lo : Nat) {n : Nat} (v : BitVec n) (k : Nat) (hk : k < 32) :
    (setBits d lo v).getLsbD k = if lo ≤ k ∧ k < lo + n then v.getLsbD (k - lo) else d.getLsbD k := by
  have hv : ∀ j, n ≤ j → v.getLsbD j = false := fun j hj => BitVec.getLsbD_of_ge v j hj
  by_cases h1 : k < lo
  · simp [setBits, hk, h1, Nat.not_le.mpr h1]
  · by_cases h2 : k - lo < n
    · have h3 : k < lo + n := by omega
      have h4 : lo ≤ k := by omega
      simp [setBits, hk, h1, h2, h3, h4]
    · have h3 : ¬ k < lo + n := by omega
      have h4 := hv (k - lo) (by omega)
      simp [setBits, hk, h1, h2, h3, h4]

/-- A raised flag: its bit is set where the condition holds, and every other bit stays. -/
theorem getLsbD_flagBit (d : Word) (n : Nat) (c : Bool) (k : Nat) (hk : k < 32) :
    (if c = true then setBits d n 1#1 else d).getLsbD k = if k = n ∧ c = true then true else d.getLsbD k := by
  cases c
  · simp
  · simp only [if_true, getLsbD_setBits _ _ _ _ hk]
    by_cases h : k = n
    · subst h; simp
    · have : ¬ (n ≤ k ∧ k < n + 1) := by omega
      rw [if_neg this, if_neg (fun hk => h hk.1)]

theorem State.getLsbD_raiseOuflag (s : State) (n : Nat) (c : Bool) (k : Nat) (hk : k < 32) :
    (s.raiseOuflag n c).dspControl.getLsbD k = if k = n ∧ c = true then true else s.dspControl.getLsbD k :=
  getLsbD_flagBit s.dspControl n c k hk

/-- The `ouflag` bit of an accumulator is one of 16 to 19. -/
theorem accFlag_bounds (a : Acc) : 16 ≤ accFlag a ∧ accFlag a < 20 := by
  unfold accFlag; omega

/-- Everything the end of an extract can do. -/
theorem State.extract_cases (s : State) (r : Reg) (f : Option DWord) (widen : DWord → DWord) (d : Option Nat) :
    (∃ v size, f = some v ∧ d = some size ∧ s.extract r f widen d =
      ((s.setPos (s.pos - BitVec.ofNat 7 (size + 1))).setEfi 0#1).setGpr r (widen v)) ∨
    (∃ v, f = some v ∧ d = none ∧ s.extract r f widen d = (s.setEfi 0#1).setGpr r (widen v)) ∨
    (f = none ∧ s.extract r f widen d = (s.setEfi 1#1).setGprAny r) := by
  cases f with
  | none => exact .inr (.inr ⟨rfl, rfl⟩)
  | some v =>
    cases d with
    | none => exact .inr (.inl ⟨v, rfl, rfl, rfl⟩)
    | some size => exact .inl ⟨v, size, rfl, rfl, rfl⟩

/-- Everything an accumulator write defined on word operands only can do. -/
theorem State.setAccWords_cases (s : State) (a : Acc) (rs rt : Reg) (v : DWord) :
    ((notWordValue (s.gpr rs) = false ∧ notWordValue (s.gpr rt) = false) ∧ s.setAccWords a rs rt v = s.setAcc a v) ∨
    ((notWordValue (s.gpr rs) = true ∨ notWordValue (s.gpr rt) = true) ∧ s.setAccWords a rs rt v = s.setHiLoAny a) := by
  unfold State.setAccWords
  cases notWordValue (s.gpr rs) <;> cases notWordValue (s.gpr rt) <;> simp

/-! ### `DSP_CHECK` and the frames of the instructions -/

/-- `DSP_CHECK` raises nothing exactly when the instruction is available. -/
theorem dspCheck_eq_none_iff (i : Instr) (s : State) : dspCheck i.isaTag s = none ↔ Available i s := by
  unfold dspCheck Available
  by_cases h1 : s.params.dspRev.number < i.isaTag.rev
  · simp [h1, Nat.not_le.mpr h1]
  · by_cases h2 : s.params.baseRelease = .r6 ∧ i.isaTag = .preR6
    · simp [h2]
    · cases h3 : s.dspEnabled <;> simp [h1, h2, Nat.not_lt.mp h1]

/-- What `DSP_CHECK` raises is Reserved Instruction or DSP Disabled. -/
theorem dspCheck_cause {tag : IsaTag} {s : State} {c : Cause} (h : dspCheck tag s = some c) :
    c = .reservedInstruction ∨ c = .dspDisabled := by
  unfold dspCheck at h
  split at h
  · cases h; exact .inl rfl
  · split at h
    · cases h; exact .inl rfl
    · split at h
      · cases h; exact .inr rfl
      · cases h

/-- Everything an ordinary instruction can end in. -/
theorem ordinary_cases (tag : IsaTag) (i : Instr) (s after : State) :
    (dspCheck tag s = none ∧ ordinary tag i s after = .next after.advance) ∨
    (∃ c, dspCheck tag s = some c ∧ ordinary tag i s after = raise c (instrInfo i) s) := by
  unfold ordinary
  cases h : dspCheck tag s with
  | none => exact .inl ⟨rfl, rfl⟩
  | some c => exact .inr ⟨c, rfl, rfl⟩

theorem ordinary_of_available {i : Instr} {s : State} (h : Available i s) (after : State) :
    ordinary i.isaTag i s after = .next after.advance := by
  unfold ordinary; rw [(dspCheck_eq_none_iff i s).mpr h]

/-- An ordinary instruction that answers a next state passed `DSP_CHECK`, and the state is its effect, moved on. -/
theorem ordinary_next {tag : IsaTag} {i : Instr} {s after t : State} (h : ordinary tag i s after = .next t) :
    dspCheck tag s = none ∧ t = after.advance := by
  rcases ordinary_cases tag i s after with ⟨hn, e⟩ | ⟨c, -, e⟩
  · exact ⟨hn, by rw [e] at h; injection h with h; exact h.symm⟩
  · rw [e] at h; cases h

/-- Everything a load can end in. -/
theorem loading_cases (tag : IsaTag) (i : Instr) (s : State) (a : Addr) (n : Nat) (after : State) :
    (dspCheck tag s = none ∧ loadCheck s a n = none ∧ loading tag i s a n after = .next after.advance) ∨
    (∃ c, dspCheck tag s = some c ∧ loading tag i s a n after = raise c (instrInfo i) s) ∨
    (∃ c, dspCheck tag s = none ∧ loadCheck s a n = some c ∧ loading tag i s a n after = raise c a s) := by
  unfold loading
  cases h : dspCheck tag s with
  | some c => exact .inr (.inl ⟨c, rfl, rfl⟩)
  | none =>
    cases h2 : loadCheck s a n with
    | none => exact .inl ⟨rfl, rfl, rfl⟩
    | some c => exact .inr (.inr ⟨c, rfl, rfl, rfl⟩)

/-- The checks on a load's address pass exactly when it is aligned and the oracle answers nothing. -/
theorem loadCheck_eq_none_iff (s : State) (a : Addr) (n : Nat) :
    loadCheck s a n = none ↔ a.toNat % n = 0 ∧ memFault s.params.memFault a n = none := by
  unfold loadCheck
  by_cases h : a.toNat % n = 0 <;> simp [h]

/-- A load that answers a next state passed `DSP_CHECK`, was aligned and not faulted, and the state is its effect,
moved on. -/
theorem loading_next {tag : IsaTag} {i : Instr} {s after t : State} {a : Addr} {n : Nat}
    (h : loading tag i s a n after = .next t) :
    dspCheck tag s = none ∧ (a.toNat % n = 0 ∧ memFault s.params.memFault a n = none) ∧ t = after.advance := by
  rcases loading_cases tag i s a n after with ⟨h1, h2, e⟩ | ⟨c, -, e⟩ | ⟨c, -, -, e⟩
  · refine ⟨h1, (loadCheck_eq_none_iff s a n).mp h2, ?_⟩
    rw [e] at h; injection h with h; exact h.symm
  · rw [e] at h; cases h
  · rw [e] at h; cases h

/-- Everything a control transfer instruction can end in. -/
theorem branching_cases (tag : IsaTag) (i : Instr) (s after : State) :
    (s.slot = .none ∧ dspCheck tag s = none ∧ branching tag i s after = .next after) ∨
    (∃ c, s.slot = .none ∧ dspCheck tag s = some c ∧ branching tag i s after = raise c (instrInfo i) s) ∨
    (s.slot = .delay ∧ s.params.baseRelease = .pre6 ∧
      branching tag i s after = .fault (.unpredOp .ctiInDelaySlot)) ∨
    ((s.slot = .delay ∧ s.params.baseRelease = .r6 ∨ s.slot = .forbidden) ∧
      branching tag i s after = raise .reservedInstruction (instrInfo i) s) := by
  unfold branching
  cases hs : s.slot with
  | none =>
    cases h : dspCheck tag s with
    | none => exact .inl ⟨rfl, rfl, rfl⟩
    | some c => exact .inr (.inl ⟨c, rfl, rfl, rfl⟩)
  | delay =>
    cases hb : s.params.baseRelease with
    | pre6 => exact .inr (.inr (.inl ⟨rfl, rfl, rfl⟩))
    | r6 => exact .inr (.inr (.inr ⟨.inl ⟨rfl, rfl⟩, rfl⟩))
  | forbidden => exact .inr (.inr (.inr ⟨.inr rfl, by cases s.params.baseRelease <;> rfl⟩))

/-- A branch that answers a next state was in no slot and passed `DSP_CHECK`, and the state is its effect. -/
theorem branching_next {tag : IsaTag} {i : Instr} {s after t : State} (h : branching tag i s after = .next t) :
    dspCheck tag s = none ∧ s.slot = .none ∧ t = after := by
  rcases branching_cases tag i s after with ⟨h1, h2, e⟩ | ⟨c, -, -, e⟩ | ⟨-, -, e⟩ | ⟨-, e⟩
  · refine ⟨h2, h1, ?_⟩
    rw [e] at h; injection h with h; exact h.symm
  · rw [e] at h; cases h
  · cases (e.symm.trans h)
  · rw [e] at h; cases h

/-! ### Fetch -/

theorem fetch_of_aligned {s : State} (h : s.pc.toNat % 4 = 0) : s.fetch = some (s.read32 s.pc) := by
  simp [State.fetch, h]

theorem fetch_of_misaligned {s : State} (h : s.pc.toNat % 4 ≠ 0) : s.fetch = none := by
  simp [State.fetch, h]

end Sys2Proof.Machine
end

