-- ==== Sys2Proof/Laws/Exec.lean ====
section
/-!
SUPPORT. The three frames every instruction runs in.
-/

namespace Sys2Proof.Machine

/-- Every instruction runs in exactly one of the three frames, under the tag of its own page, chosen by whether it is a
branch or a load; so it can end only as `ordinary_cases`, `loading_cases` and `branching_cases` say. -/
theorem exec_frame (i : Instr) (s : State) :
    (isBranch i = false ∧ loadAccess s i = none ∧ ∃ after, exec i s = ordinary i.isaTag i s after) ∨
    (∃ a n after, isBranch i = false ∧ loadAccess s i = some (a, n) ∧ exec i s = loading i.isaTag i s a n after) ∨
    (isBranch i = true ∧ loadAccess s i = none ∧ ∃ after, exec i s = branching i.isaTag i s after) := by
  cases i <;> first
    | exact .inl ⟨rfl, rfl, _, rfl⟩
    | exact .inr (.inl ⟨_, _, _, rfl, rfl, rfl⟩)
    | exact .inr (.inr ⟨rfl, rfl, _, rfl⟩)

end Sys2Proof.Machine
end

