-- ==== Sys2Proof/Laws/Memory.lean ====
section
/-!
SUPPORT. The laws of memory: a byte written is read back and no other address changes; every memory operation keeps
the canonical form, and reset's memory has it.
-/

namespace Sys2Proof.Machine

/-- Above a canonical list nothing below its bound is listed. -/
theorem Memory.read_below {m : Memory} {low a : Nat} (h : Memory.wfFrom low m = true) (ha : a < low) :
    m.read a = Memory.unlisted := by
  induction m generalizing low with
  | nil => rfl
  | cons e m ih =>
    obtain ⟨k, b⟩ := e
    simp only [Memory.wfFrom, Bool.and_eq_true, decide_eq_true_eq] at h
    have hk : a ≠ k := by omega
    simp only [Memory.read, if_neg hk]
    exact ih h.2 (by omega)

theorem Memory.wfFrom_mono {m : Memory} {low low' : Nat} (h : Memory.wfFrom low m = true) (hl : low' ≤ low) :
    Memory.wfFrom low' m = true := by
  cases m with
  | nil => rfl
  | cons e m =>
    obtain ⟨k, b⟩ := e
    simp only [Memory.wfFrom, Bool.and_eq_true, decide_eq_true_eq] at h ⊢
    exact ⟨⟨⟨by omega, h.1.1.2⟩, h.1.2⟩, h.2⟩

/-- An entry in front of what is listed above it. -/
theorem Memory.read_entry {m : Memory} {a : Nat} (b : Byte) (h : Memory.wfFrom (a + 1) m = true) (c : Nat) :
    (Memory.entry a b m).read c = if c = a then b else m.read c := by
  unfold Memory.entry
  by_cases hb : b = Memory.unlisted
  · by_cases hc : c = a
    · subst hc; rw [if_pos hb, if_pos rfl, Memory.read_below h (by omega), hb]
    · rw [if_pos hb, if_neg hc]
  · rw [if_neg hb]; rfl

theorem Memory.wfFrom_entry {m : Memory} {low a : Nat} (b : Byte) (hl : low ≤ a) (ha : a < 2 ^ 64)
    (h : Memory.wfFrom (a + 1) m = true) : Memory.wfFrom low (Memory.entry a b m) = true := by
  unfold Memory.entry
  by_cases hb : b = Memory.unlisted
  · rw [if_pos hb]; exact Memory.wfFrom_mono h (by omega)
  · rw [if_neg hb]
    simp only [Memory.wfFrom, Bool.and_eq_true, decide_eq_true_eq]
    exact ⟨⟨⟨hl, ha⟩, hb⟩, h⟩

/-- Reading after a write gives the byte written at its address and what stood there at every other. -/
theorem Memory.read_write {m : Memory} {low : Nat} (a : Nat) (b : Byte) (h : Memory.wfFrom low m = true) (c : Nat) :
    (Memory.write m a b).read c = if c = a then b else m.read c := by
  induction m generalizing low with
  | nil => exact Memory.read_entry b rfl c
  | cons e m ih =>
    obtain ⟨k, d⟩ := e
    have h' := h
    simp only [Memory.wfFrom, Bool.and_eq_true, decide_eq_true_eq] at h
    simp only [Memory.write]
    by_cases h1 : a < k
    · rw [if_pos h1]
      refine Memory.read_entry b ?_ c
      simp only [Memory.wfFrom, Bool.and_eq_true, decide_eq_true_eq]
      exact ⟨⟨⟨h1, h.1.1.2⟩, h.1.2⟩, h.2⟩
    · rw [if_neg h1]
      by_cases h2 : a = k
      · subst h2
        rw [if_pos rfl, Memory.read_entry b h.2 c]
        by_cases hc : c = a <;> simp [Memory.read, hc]
      · rw [if_neg h2]
        simp only [Memory.read, ih h.2]
        by_cases hc : c = k
        · simp [hc, Ne.symm h2]
        · simp [hc]

/-- A write inside the address space keeps the canonical form. -/
theorem Memory.wfFrom_write {m : Memory} {low : Nat} (a : Nat) (b : Byte) (hl : low ≤ a) (ha : a < 2 ^ 64)
    (h : Memory.wfFrom low m = true) : Memory.wfFrom low (Memory.write m a b) = true := by
  induction m generalizing low with
  | nil => exact Memory.wfFrom_entry b hl ha rfl
  | cons e m ih =>
    obtain ⟨k, d⟩ := e
    simp only [Memory.wfFrom, Bool.and_eq_true, decide_eq_true_eq] at h
    simp only [Memory.write]
    by_cases h1 : a < k
    · rw [if_pos h1]
      refine Memory.wfFrom_entry b hl ha ?_
      simp only [Memory.wfFrom, Bool.and_eq_true, decide_eq_true_eq]
      exact ⟨⟨⟨h1, h.1.1.2⟩, h.1.2⟩, h.2⟩
    · rw [if_neg h1]
      by_cases h2 : a = k
      · subst h2; rw [if_pos rfl]; exact Memory.wfFrom_entry b hl ha h.2
      · rw [if_neg h2]
        simp only [Memory.wfFrom, Bool.and_eq_true, decide_eq_true_eq]
        exact ⟨h.1, ih (by omega) h.2⟩

theorem Memory.wf_write {m : Memory} (a : Nat) (b : Byte) (ha : a < 2 ^ 64) (h : m.wf = true) :
    (Memory.write m a b).wf = true :=
  Memory.wfFrom_write a b (Nat.zero_le a) ha h

theorem State.wf_storeByte {s : State} (a : Addr) (b : Byte) (h : s.mem.wf = true) : (s.storeByte a b).mem.wf = true :=
  Memory.wf_write a.toNat b a.isLt h

theorem State.wf_storeWord {s : State} (a : Addr) (w : Word) (h : s.mem.wf = true) : (s.storeWord a w).mem.wf = true :=
  State.wf_storeByte _ _ (State.wf_storeByte _ _ (State.wf_storeByte _ _ (State.wf_storeByte _ _ h)))

theorem State.wf_withFetchWord {s : State} (nbits w : Nat) (h : s.mem.wf = true) :
    (s.withFetchWord nbits w).mem.wf = true :=
  State.wf_storeWord s.pc _ h

/-- A byte placed is read back, and every other address reads as before. -/
theorem State.readByte_storeByte {s : State} (h : s.mem.wf = true) (a : Addr) (b : Byte) (c : Addr) :
    (s.storeByte a b).readByte c = if c = a then b else s.readByte c := by
  refine (Memory.read_write a.toNat b h c.toNat).trans ?_
  by_cases hc : c = a
  · simp [hc]
  · have : c.toNat ≠ a.toNat := fun e => hc (BitVec.eq_of_toNat_eq e)
    simp [hc, this, State.readByte]

theorem State.wf_reset : State.reset.mem.wf = true := rfl

end Sys2Proof.Machine
end

