-- ==== Sys2Proof/Laws/Operands.lean ====
section
/-!
SUPPORT. The elements of a packed word are the values it was packed from, so element-wise operations are decided element
by element; the condition bits of a comparison are its answers.
-/

namespace Sys2Proof.Machine

@[simp] theorem halfB_packPH (b a : Half) : halfB (packPH b a) = b := by
  unfold halfB packPH
  rw [BitVec.extractLsb'_append_eq_of_le (Nat.le_refl 16)]
  exact BitVec.extractLsb'_eq_self

@[simp] theorem halfA_packPH (b a : Half) : halfA (packPH b a) = a := by
  unfold halfA packPH
  rw [BitVec.extractLsb'_append_eq_of_add_le (Nat.le_refl 16)]
  exact BitVec.extractLsb'_eq_self

@[simp] theorem byteD_packQB (d c b a : Byte) : byteD (packQB d c b a) = d := by
  unfold byteD packQB
  rw [BitVec.extractLsb'_append_eq_of_le (by decide), BitVec.extractLsb'_append_eq_of_le (by decide),
    BitVec.extractLsb'_append_eq_of_le (by decide)]
  exact BitVec.extractLsb'_eq_self

@[simp] theorem byteC_packQB (d c b a : Byte) : byteC (packQB d c b a) = c := by
  unfold byteC packQB
  rw [BitVec.extractLsb'_append_eq_of_le (by decide), BitVec.extractLsb'_append_eq_of_le (by decide),
    BitVec.extractLsb'_append_eq_of_add_le (by decide)]
  exact BitVec.extractLsb'_eq_self

@[simp] theorem byteB_packQB (d c b a : Byte) : byteB (packQB d c b a) = b := by
  unfold byteB packQB
  rw [BitVec.extractLsb'_append_eq_of_le (by decide), BitVec.extractLsb'_append_eq_of_add_le (by decide)]
  exact BitVec.extractLsb'_eq_self

@[simp] theorem byteA_packQB (d c b a : Byte) : byteA (packQB d c b a) = a := by
  unfold byteA packQB
  rw [BitVec.extractLsb'_append_eq_of_add_le (by decide)]
  exact BitVec.extractLsb'_eq_self

/-- Two element operations that agree on the elements at hand give the same packed result. -/
theorem zipPHFlag_congr {f g : Half → Half → Flagged 16} {x y : Word} (hB : f (halfB x) (halfB y) = g (halfB x) (halfB y))
    (hA : f (halfA x) (halfA y) = g (halfA x) (halfA y)) : zipPHFlag f x y = zipPHFlag g x y := by
  unfold zipPHFlag; rw [hB, hA]

/-- The flag of a packed result is that of any element. -/
theorem joinPH_flag (b a : Flagged 16) : (joinPH b a).2 = (b.2 || a.2) := rfl

theorem joinQB_flag (d c b a : Flagged 8) : (joinQB d c b a).2 = (d.2 || c.2 || b.2 || a.2) := rfl

end Sys2Proof.Machine
end

