-- ==== Sys2Proof/Laws/PerInstr.lean ====
section
/-!
SUPPORT. Family `Row`: every instruction is a row of the opcode table, under the mnemonic and the availability tag of
its constructor, and its word carries the row's major opcode (`30_encoding.md` R72, R93). One lemma per constructor.
-/

namespace Sys2Proof.Laws.Row

/-- The row of the opcode table that an instruction is. -/
def Statement (i : Instr) : Prop :=
  ∃ r ∈ opcodeRows, r.mnemonic = i.mnemonic ∧ r.tag = i.isaTag ∧ fieldOp (encode i) = fieldOp r.pattern

/-- The statement from the row's place in the table. -/
theorem of_index {i : Instr} {r : OpcodeRow} (k : Nat) (h : opcodeRows[k]? = some r) (hm : r.mnemonic = i.mnemonic)
    (ht : r.tag = i.isaTag) (ho : fieldOp (encode i) = fieldOp r.pattern) : Statement i :=
  ⟨r, List.mem_of_getElem? h, hm, ht, ho⟩

theorem adduQb (rd rs rt : Reg) : Statement (.adduQb rd rs rt) := of_index 0 rfl rfl rfl (fieldOp_instrWord ..)

theorem subuQb (rd rs rt : Reg) : Statement (.subuQb rd rs rt) := of_index 1 rfl rfl rfl (fieldOp_instrWord ..)

theorem adduSQb (rd rs rt : Reg) : Statement (.adduSQb rd rs rt) := of_index 2 rfl rfl rfl (fieldOp_instrWord ..)

theorem subuSQb (rd rs rt : Reg) : Statement (.subuSQb rd rs rt) := of_index 3 rfl rfl rfl (fieldOp_instrWord ..)

theorem muleuSPhQbl (rd rs rt : Reg) : Statement (.muleuSPhQbl rd rs rt) :=
  of_index 4 rfl rfl rfl (fieldOp_instrWord ..)

theorem muleuSPhQbr (rd rs rt : Reg) : Statement (.muleuSPhQbr rd rs rt) :=
  of_index 5 rfl rfl rfl (fieldOp_instrWord ..)

theorem adduPh (rd rs rt : Reg) : Statement (.adduPh rd rs rt) := of_index 6 rfl rfl rfl (fieldOp_instrWord ..)

theorem subuPh (rd rs rt : Reg) : Statement (.subuPh rd rs rt) := of_index 7 rfl rfl rfl (fieldOp_instrWord ..)

theorem addqPh (rd rs rt : Reg) : Statement (.addqPh rd rs rt) := of_index 8 rfl rfl rfl (fieldOp_instrWord ..)

theorem subqPh (rd rs rt : Reg) : Statement (.subqPh rd rs rt) := of_index 9 rfl rfl rfl (fieldOp_instrWord ..)

theorem adduSPh (rd rs rt : Reg) : Statement (.adduSPh rd rs rt) := of_index 10 rfl rfl rfl (fieldOp_instrWord ..)

theorem subuSPh (rd rs rt : Reg) : Statement (.subuSPh rd rs rt) := of_index 11 rfl rfl rfl (fieldOp_instrWord ..)

theorem addqSPh (rd rs rt : Reg) : Statement (.addqSPh rd rs rt) := of_index 12 rfl rfl rfl (fieldOp_instrWord ..)

theorem subqSPh (rd rs rt : Reg) : Statement (.subqSPh rd rs rt) := of_index 13 rfl rfl rfl (fieldOp_instrWord ..)

theorem addsc (rd rs rt : Reg) : Statement (.addsc rd rs rt) := of_index 14 rfl rfl rfl (fieldOp_instrWord ..)

theorem addwc (rd rs rt : Reg) : Statement (.addwc rd rs rt) := of_index 15 rfl rfl rfl (fieldOp_instrWord ..)

theorem modsub (rd rs rt : Reg) : Statement (.modsub rd rs rt) := of_index 16 rfl rfl rfl (fieldOp_instrWord ..)

theorem addqSW (rd rs rt : Reg) : Statement (.addqSW rd rs rt) := of_index 17 rfl rfl rfl (fieldOp_instrWord ..)

theorem subqSW (rd rs rt : Reg) : Statement (.subqSW rd rs rt) := of_index 18 rfl rfl rfl (fieldOp_instrWord ..)

theorem muleqSWPhl (rd rs rt : Reg) : Statement (.muleqSWPhl rd rs rt) :=
  of_index 19 rfl rfl rfl (fieldOp_instrWord ..)

theorem muleqSWPhr (rd rs rt : Reg) : Statement (.muleqSWPhr rd rs rt) :=
  of_index 20 rfl rfl rfl (fieldOp_instrWord ..)

theorem mulqSPh (rd rs rt : Reg) : Statement (.mulqSPh rd rs rt) := of_index 21 rfl rfl rfl (fieldOp_instrWord ..)

theorem mulqRsPh (rd rs rt : Reg) : Statement (.mulqRsPh rd rs rt) := of_index 22 rfl rfl rfl (fieldOp_instrWord ..)

theorem radduWQb (rd rs : Reg) : Statement (.radduWQb rd rs) := of_index 23 rfl rfl rfl (fieldOp_instrWord ..)

theorem cmpuEqQb (rs rt : Reg) : Statement (.cmpuEqQb rs rt) := of_index 24 rfl rfl rfl (fieldOp_instrWord ..)

theorem cmpuLtQb (rs rt : Reg) : Statement (.cmpuLtQb rs rt) := of_index 25 rfl rfl rfl (fieldOp_instrWord ..)

theorem cmpuLeQb (rs rt : Reg) : Statement (.cmpuLeQb rs rt) := of_index 26 rfl rfl rfl (fieldOp_instrWord ..)

theorem pickQb (rd rs rt : Reg) : Statement (.pickQb rd rs rt) := of_index 27 rfl rfl rfl (fieldOp_instrWord ..)

theorem cmpguEqQb (rd rs rt : Reg) : Statement (.cmpguEqQb rd rs rt) := of_index 28 rfl rfl rfl (fieldOp_instrWord ..)

theorem cmpguLtQb (rd rs rt : Reg) : Statement (.cmpguLtQb rd rs rt) := of_index 29 rfl rfl rfl (fieldOp_instrWord ..)

theorem cmpguLeQb (rd rs rt : Reg) : Statement (.cmpguLeQb rd rs rt) := of_index 30 rfl rfl rfl (fieldOp_instrWord ..)

theorem cmpEqPh (rs rt : Reg) : Statement (.cmpEqPh rs rt) := of_index 31 rfl rfl rfl (fieldOp_instrWord ..)

theorem cmpLtPh (rs rt : Reg) : Statement (.cmpLtPh rs rt) := of_index 32 rfl rfl rfl (fieldOp_instrWord ..)

theorem cmpLePh (rs rt : Reg) : Statement (.cmpLePh rs rt) := of_index 33 rfl rfl rfl (fieldOp_instrWord ..)

theorem pickPh (rd rs rt : Reg) : Statement (.pickPh rd rs rt) := of_index 34 rfl rfl rfl (fieldOp_instrWord ..)

theorem precrqQbPh (rd rs rt : Reg) : Statement (.precrqQbPh rd rs rt) :=
  of_index 35 rfl rfl rfl (fieldOp_instrWord ..)

theorem precrQbPh (rd rs rt : Reg) : Statement (.precrQbPh rd rs rt) := of_index 36 rfl rfl rfl (fieldOp_instrWord ..)

theorem packrlPh (rd rs rt : Reg) : Statement (.packrlPh rd rs rt) := of_index 37 rfl rfl rfl (fieldOp_instrWord ..)

theorem precrquSQbPh (rd rs rt : Reg) : Statement (.precrquSQbPh rd rs rt) :=
  of_index 38 rfl rfl rfl (fieldOp_instrWord ..)

theorem precrqPhW (rd rs rt : Reg) : Statement (.precrqPhW rd rs rt) := of_index 39 rfl rfl rfl (fieldOp_instrWord ..)

theorem precrqRsPhW (rd rs rt : Reg) : Statement (.precrqRsPhW rd rs rt) :=
  of_index 40 rfl rfl rfl (fieldOp_instrWord ..)

theorem cmpgduEqQb (rd rs rt : Reg) : Statement (.cmpgduEqQb rd rs rt) :=
  of_index 41 rfl rfl rfl (fieldOp_instrWord ..)

theorem cmpgduLtQb (rd rs rt : Reg) : Statement (.cmpgduLtQb rd rs rt) :=
  of_index 42 rfl rfl rfl (fieldOp_instrWord ..)

theorem cmpgduLeQb (rd rs rt : Reg) : Statement (.cmpgduLeQb rd rs rt) :=
  of_index 43 rfl rfl rfl (fieldOp_instrWord ..)

theorem precrSraPhW (rt rs : Reg) (sa : Nat) : Statement (.precrSraPhW rt rs sa) :=
  of_index 44 rfl rfl rfl (fieldOp_instrWord ..)

theorem precrSraRPhW (rt rs : Reg) (sa : Nat) : Statement (.precrSraRPhW rt rs sa) :=
  of_index 45 rfl rfl rfl (fieldOp_instrWord ..)

theorem absqSQb (rd rt : Reg) : Statement (.absqSQb rd rt) := of_index 46 rfl rfl rfl (fieldOp_instrWord ..)

theorem replQb (rd : Reg) (imm : BitVec 8) : Statement (.replQb rd imm) :=
  of_index 47 rfl rfl rfl (fieldOp_instrWord ..)

theorem replvQb (rd rt : Reg) : Statement (.replvQb rd rt) := of_index 48 rfl rfl rfl (fieldOp_instrWord ..)

theorem precequPhQbl (rd rt : Reg) : Statement (.precequPhQbl rd rt) := of_index 49 rfl rfl rfl (fieldOp_instrWord ..)

theorem precequPhQbr (rd rt : Reg) : Statement (.precequPhQbr rd rt) := of_index 50 rfl rfl rfl (fieldOp_instrWord ..)

theorem precequPhQbla (rd rt : Reg) : Statement (.precequPhQbla rd rt) :=
  of_index 51 rfl rfl rfl (fieldOp_instrWord ..)

theorem precequPhQbra (rd rt : Reg) : Statement (.precequPhQbra rd rt) :=
  of_index 52 rfl rfl rfl (fieldOp_instrWord ..)

theorem absqSPh (rd rt : Reg) : Statement (.absqSPh rd rt) := of_index 53 rfl rfl rfl (fieldOp_instrWord ..)

theorem replPh (rd : Reg) (imm : BitVec 10) : Statement (.replPh rd imm) :=
  of_index 54 rfl rfl rfl (fieldOp_instrWord ..)

theorem replvPh (rd rt : Reg) : Statement (.replvPh rd rt) := of_index 55 rfl rfl rfl (fieldOp_instrWord ..)

theorem preceqWPhl (rd rt : Reg) : Statement (.preceqWPhl rd rt) := of_index 56 rfl rfl rfl (fieldOp_instrWord ..)

theorem preceqWPhr (rd rt : Reg) : Statement (.preceqWPhr rd rt) := of_index 57 rfl rfl rfl (fieldOp_instrWord ..)

theorem absqSW (rd rt : Reg) : Statement (.absqSW rd rt) := of_index 58 rfl rfl rfl (fieldOp_instrWord ..)

theorem bitrev (rd rt : Reg) : Statement (.bitrev rd rt) := of_index 59 rfl rfl rfl (fieldOp_instrWord ..)

theorem preceuPhQbl (rd rt : Reg) : Statement (.preceuPhQbl rd rt) := of_index 60 rfl rfl rfl (fieldOp_instrWord ..)

theorem preceuPhQbr (rd rt : Reg) : Statement (.preceuPhQbr rd rt) := of_index 61 rfl rfl rfl (fieldOp_instrWord ..)

theorem preceuPhQbla (rd rt : Reg) : Statement (.preceuPhQbla rd rt) := of_index 62 rfl rfl rfl (fieldOp_instrWord ..)

theorem preceuPhQbra (rd rt : Reg) : Statement (.preceuPhQbra rd rt) := of_index 63 rfl rfl rfl (fieldOp_instrWord ..)

theorem shllQb (rd rt : Reg) (sa : Nat) : Statement (.shllQb rd rt sa) :=
  of_index 64 rfl rfl rfl (fieldOp_instrWord ..)

theorem shrlQb (rd rt : Reg) (sa : Nat) : Statement (.shrlQb rd rt sa) :=
  of_index 65 rfl rfl rfl (fieldOp_instrWord ..)

theorem shllvQb (rd rt rs : Reg) : Statement (.shllvQb rd rt rs) := of_index 66 rfl rfl rfl (fieldOp_instrWord ..)

theorem shrlvQb (rd rt rs : Reg) : Statement (.shrlvQb rd rt rs) := of_index 67 rfl rfl rfl (fieldOp_instrWord ..)

theorem shraQb (rd rt : Reg) (sa : Nat) : Statement (.shraQb rd rt sa) :=
  of_index 68 rfl rfl rfl (fieldOp_instrWord ..)

theorem shraRQb (rd rt : Reg) (sa : Nat) : Statement (.shraRQb rd rt sa) :=
  of_index 69 rfl rfl rfl (fieldOp_instrWord ..)

theorem shravQb (rd rt rs : Reg) : Statement (.shravQb rd rt rs) := of_index 70 rfl rfl rfl (fieldOp_instrWord ..)

theorem shravRQb (rd rt rs : Reg) : Statement (.shravRQb rd rt rs) := of_index 71 rfl rfl rfl (fieldOp_instrWord ..)

theorem shllPh (rd rt : Reg) (sa : Nat) : Statement (.shllPh rd rt sa) :=
  of_index 72 rfl rfl rfl (fieldOp_instrWord ..)

theorem shraPh (rd rt : Reg) (sa : Nat) : Statement (.shraPh rd rt sa) :=
  of_index 73 rfl rfl rfl (fieldOp_instrWord ..)

theorem shllvPh (rd rt rs : Reg) : Statement (.shllvPh rd rt rs) := of_index 74 rfl rfl rfl (fieldOp_instrWord ..)

theorem shravPh (rd rt rs : Reg) : Statement (.shravPh rd rt rs) := of_index 75 rfl rfl rfl (fieldOp_instrWord ..)

theorem shllSPh (rd rt : Reg) (sa : Nat) : Statement (.shllSPh rd rt sa) :=
  of_index 76 rfl rfl rfl (fieldOp_instrWord ..)

theorem shraRPh (rd rt : Reg) (sa : Nat) : Statement (.shraRPh rd rt sa) :=
  of_index 77 rfl rfl rfl (fieldOp_instrWord ..)

theorem shllvSPh (rd rt rs : Reg) : Statement (.shllvSPh rd rt rs) := of_index 78 rfl rfl rfl (fieldOp_instrWord ..)

theorem shravRPh (rd rt rs : Reg) : Statement (.shravRPh rd rt rs) := of_index 79 rfl rfl rfl (fieldOp_instrWord ..)

theorem shllSW (rd rt : Reg) (sa : Nat) : Statement (.shllSW rd rt sa) :=
  of_index 80 rfl rfl rfl (fieldOp_instrWord ..)

theorem shraRW (rd rt : Reg) (sa : Nat) : Statement (.shraRW rd rt sa) :=
  of_index 81 rfl rfl rfl (fieldOp_instrWord ..)

theorem shllvSW (rd rt rs : Reg) : Statement (.shllvSW rd rt rs) := of_index 82 rfl rfl rfl (fieldOp_instrWord ..)

theorem shravRW (rd rt rs : Reg) : Statement (.shravRW rd rt rs) := of_index 83 rfl rfl rfl (fieldOp_instrWord ..)

theorem shrlPh (rd rt : Reg) (sa : Nat) : Statement (.shrlPh rd rt sa) :=
  of_index 84 rfl rfl rfl (fieldOp_instrWord ..)

theorem shrlvPh (rd rt rs : Reg) : Statement (.shrlvPh rd rt rs) := of_index 85 rfl rfl rfl (fieldOp_instrWord ..)

theorem adduhQb (rd rs rt : Reg) : Statement (.adduhQb rd rs rt) := of_index 86 rfl rfl rfl (fieldOp_instrWord ..)

theorem subuhQb (rd rs rt : Reg) : Statement (.subuhQb rd rs rt) := of_index 87 rfl rfl rfl (fieldOp_instrWord ..)

theorem adduhRQb (rd rs rt : Reg) : Statement (.adduhRQb rd rs rt) := of_index 88 rfl rfl rfl (fieldOp_instrWord ..)

theorem subuhRQb (rd rs rt : Reg) : Statement (.subuhRQb rd rs rt) := of_index 89 rfl rfl rfl (fieldOp_instrWord ..)

theorem addqhPh (rd rs rt : Reg) : Statement (.addqhPh rd rs rt) := of_index 90 rfl rfl rfl (fieldOp_instrWord ..)

theorem subqhPh (rd rs rt : Reg) : Statement (.subqhPh rd rs rt) := of_index 91 rfl rfl rfl (fieldOp_instrWord ..)

theorem addqhRPh (rd rs rt : Reg) : Statement (.addqhRPh rd rs rt) := of_index 92 rfl rfl rfl (fieldOp_instrWord ..)

theorem subqhRPh (rd rs rt : Reg) : Statement (.subqhRPh rd rs rt) := of_index 93 rfl rfl rfl (fieldOp_instrWord ..)

theorem mulPh (rd rs rt : Reg) : Statement (.mulPh rd rs rt) := of_index 94 rfl rfl rfl (fieldOp_instrWord ..)

theorem mulSPh (rd rs rt : Reg) : Statement (.mulSPh rd rs rt) := of_index 95 rfl rfl rfl (fieldOp_instrWord ..)

theorem addqhW (rd rs rt : Reg) : Statement (.addqhW rd rs rt) := of_index 96 rfl rfl rfl (fieldOp_instrWord ..)

theorem subqhW (rd rs rt : Reg) : Statement (.subqhW rd rs rt) := of_index 97 rfl rfl rfl (fieldOp_instrWord ..)

theorem addqhRW (rd rs rt : Reg) : Statement (.addqhRW rd rs rt) := of_index 98 rfl rfl rfl (fieldOp_instrWord ..)

theorem subqhRW (rd rs rt : Reg) : Statement (.subqhRW rd rs rt) := of_index 99 rfl rfl rfl (fieldOp_instrWord ..)

theorem mulqSW (rd rs rt : Reg) : Statement (.mulqSW rd rs rt) := of_index 100 rfl rfl rfl (fieldOp_instrWord ..)

theorem mulqRsW (rd rs rt : Reg) : Statement (.mulqRsW rd rs rt) := of_index 101 rfl rfl rfl (fieldOp_instrWord ..)

theorem dpaWPh (ac : Acc) (rs rt : Reg) : Statement (.dpaWPh ac rs rt) :=
  of_index 102 rfl rfl rfl (fieldOp_instrWord ..)

theorem dpsWPh (ac : Acc) (rs rt : Reg) : Statement (.dpsWPh ac rs rt) :=
  of_index 103 rfl rfl rfl (fieldOp_instrWord ..)

theorem mulsaWPh (ac : Acc) (rs rt : Reg) : Statement (.mulsaWPh ac rs rt) :=
  of_index 104 rfl rfl rfl (fieldOp_instrWord ..)

theorem dpauHQbl (ac : Acc) (rs rt : Reg) : Statement (.dpauHQbl ac rs rt) :=
  of_index 105 rfl rfl rfl (fieldOp_instrWord ..)

theorem dpaqSWPh (ac : Acc) (rs rt : Reg) : Statement (.dpaqSWPh ac rs rt) :=
  of_index 106 rfl rfl rfl (fieldOp_instrWord ..)

theorem dpsqSWPh (ac : Acc) (rs rt : Reg) : Statement (.dpsqSWPh ac rs rt) :=
  of_index 107 rfl rfl rfl (fieldOp_instrWord ..)

theorem mulsaqSWPh (ac : Acc) (rs rt : Reg) : Statement (.mulsaqSWPh ac rs rt) :=
  of_index 108 rfl rfl rfl (fieldOp_instrWord ..)

theorem dpauHQbr (ac : Acc) (rs rt : Reg) : Statement (.dpauHQbr ac rs rt) :=
  of_index 109 rfl rfl rfl (fieldOp_instrWord ..)

theorem dpaxWPh (ac : Acc) (rs rt : Reg) : Statement (.dpaxWPh ac rs rt) :=
  of_index 110 rfl rfl rfl (fieldOp_instrWord ..)

theorem dpsxWPh (ac : Acc) (rs rt : Reg) : Statement (.dpsxWPh ac rs rt) :=
  of_index 111 rfl rfl rfl (fieldOp_instrWord ..)

theorem dpsuHQbl (ac : Acc) (rs rt : Reg) : Statement (.dpsuHQbl ac rs rt) :=
  of_index 112 rfl rfl rfl (fieldOp_instrWord ..)

theorem dpaqSaLW (ac : Acc) (rs rt : Reg) : Statement (.dpaqSaLW ac rs rt) :=
  of_index 113 rfl rfl rfl (fieldOp_instrWord ..)

theorem dpsqSaLW (ac : Acc) (rs rt : Reg) : Statement (.dpsqSaLW ac rs rt) :=
  of_index 114 rfl rfl rfl (fieldOp_instrWord ..)

theorem dpsuHQbr (ac : Acc) (rs rt : Reg) : Statement (.dpsuHQbr ac rs rt) :=
  of_index 115 rfl rfl rfl (fieldOp_instrWord ..)

theorem maqSaWPhl (ac : Acc) (rs rt : Reg) : Statement (.maqSaWPhl ac rs rt) :=
  of_index 116 rfl rfl rfl (fieldOp_instrWord ..)

theorem maqSaWPhr (ac : Acc) (rs rt : Reg) : Statement (.maqSaWPhr ac rs rt) :=
  of_index 117 rfl rfl rfl (fieldOp_instrWord ..)

theorem maqSWPhl (ac : Acc) (rs rt : Reg) : Statement (.maqSWPhl ac rs rt) :=
  of_index 118 rfl rfl rfl (fieldOp_instrWord ..)

theorem maqSWPhr (ac : Acc) (rs rt : Reg) : Statement (.maqSWPhr ac rs rt) :=
  of_index 119 rfl rfl rfl (fieldOp_instrWord ..)

theorem dpaqxSWPh (ac : Acc) (rs rt : Reg) : Statement (.dpaqxSWPh ac rs rt) :=
  of_index 120 rfl rfl rfl (fieldOp_instrWord ..)

theorem dpsqxSWPh (ac : Acc) (rs rt : Reg) : Statement (.dpsqxSWPh ac rs rt) :=
  of_index 121 rfl rfl rfl (fieldOp_instrWord ..)

theorem dpaqxSaWPh (ac : Acc) (rs rt : Reg) : Statement (.dpaqxSaWPh ac rs rt) :=
  of_index 122 rfl rfl rfl (fieldOp_instrWord ..)

theorem dpsqxSaWPh (ac : Acc) (rs rt : Reg) : Statement (.dpsqxSaWPh ac rs rt) :=
  of_index 123 rfl rfl rfl (fieldOp_instrWord ..)

theorem append (rt rs : Reg) (sa : Nat) : Statement (.append rt rs sa) :=
  of_index 141 rfl rfl rfl (fieldOp_instrWord ..)

theorem prepend (rt rs : Reg) (sa : Nat) : Statement (.prepend rt rs sa) :=
  of_index 142 rfl rfl rfl (fieldOp_instrWord ..)

theorem balign (rt rs : Reg) (bp : Nat) : Statement (.balign rt rs bp) :=
  of_index 143 rfl rfl rfl (fieldOp_instrWord ..)

theorem extrW (rt : Reg) (ac : Acc) (shift : Nat) : Statement (.extrW rt ac shift) :=
  of_index 124 rfl rfl rfl (fieldOp_instrWord ..)

theorem extrvW (rt : Reg) (ac : Acc) (rs : Reg) : Statement (.extrvW rt ac rs) :=
  of_index 125 rfl rfl rfl (fieldOp_instrWord ..)

theorem extp (rt : Reg) (ac : Acc) (size : Nat) : Statement (.extp rt ac size) :=
  of_index 126 rfl rfl rfl (fieldOp_instrWord ..)

theorem extpv (rt : Reg) (ac : Acc) (rs : Reg) : Statement (.extpv rt ac rs) :=
  of_index 127 rfl rfl rfl (fieldOp_instrWord ..)

theorem extrRW (rt : Reg) (ac : Acc) (shift : Nat) : Statement (.extrRW rt ac shift) :=
  of_index 128 rfl rfl rfl (fieldOp_instrWord ..)

theorem extrvRW (rt : Reg) (ac : Acc) (rs : Reg) : Statement (.extrvRW rt ac rs) :=
  of_index 129 rfl rfl rfl (fieldOp_instrWord ..)

theorem extrRsW (rt : Reg) (ac : Acc) (shift : Nat) : Statement (.extrRsW rt ac shift) :=
  of_index 130 rfl rfl rfl (fieldOp_instrWord ..)

theorem extrvRsW (rt : Reg) (ac : Acc) (rs : Reg) : Statement (.extrvRsW rt ac rs) :=
  of_index 131 rfl rfl rfl (fieldOp_instrWord ..)

theorem extpdp (rt : Reg) (ac : Acc) (size : Nat) : Statement (.extpdp rt ac size) :=
  of_index 132 rfl rfl rfl (fieldOp_instrWord ..)

theorem extpdpv (rt : Reg) (ac : Acc) (rs : Reg) : Statement (.extpdpv rt ac rs) :=
  of_index 133 rfl rfl rfl (fieldOp_instrWord ..)

theorem extrSH (rt : Reg) (ac : Acc) (shift : Nat) : Statement (.extrSH rt ac shift) :=
  of_index 134 rfl rfl rfl (fieldOp_instrWord ..)

theorem extrvSH (rt : Reg) (ac : Acc) (rs : Reg) : Statement (.extrvSH rt ac rs) :=
  of_index 135 rfl rfl rfl (fieldOp_instrWord ..)

theorem rddsp (rd : Reg) (mask : BitVec 10) : Statement (.rddsp rd mask) :=
  of_index 136 rfl rfl rfl (fieldOp_instrWord ..)

theorem wrdsp (rs : Reg) (mask : BitVec 10) : Statement (.wrdsp rs mask) :=
  of_index 137 rfl rfl rfl (fieldOp_instrWord ..)

theorem shilo (ac : Acc) (shift : BitVec 6) : Statement (.shilo ac shift) :=
  of_index 138 rfl rfl rfl (fieldOp_instrWord ..)

theorem shilov (ac : Acc) (rs : Reg) : Statement (.shilov ac rs) := of_index 139 rfl rfl rfl (fieldOp_instrWord ..)

theorem mthlip (rs : Reg) (ac : Acc) : Statement (.mthlip rs ac) := of_index 140 rfl rfl rfl (fieldOp_instrWord ..)

theorem lwx (rd index base : Reg) : Statement (.lwx rd index base) := of_index 144 rfl rfl rfl (fieldOp_instrWord ..)

theorem lhx (rd index base : Reg) : Statement (.lhx rd index base) := of_index 145 rfl rfl rfl (fieldOp_instrWord ..)

theorem lbux (rd index base : Reg) : Statement (.lbux rd index base) := of_index 146 rfl rfl rfl (fieldOp_instrWord ..)

theorem ldx (rd index base : Reg) : Statement (.ldx rd index base) := of_index 147 rfl rfl rfl (fieldOp_instrWord ..)

theorem insv (rt rs : Reg) : Statement (.insv rt rs) := of_index 148 rfl rfl rfl (fieldOp_instrWord ..)

theorem bposge32 (offset : BitVec 16) : Statement (.bposge32 offset) := of_index 149 rfl rfl rfl (fieldOp_instrWord ..)

theorem bposge32c (offset : BitVec 16) : Statement (.bposge32c offset) :=
  of_index 150 rfl rfl rfl (fieldOp_instrWord ..)

theorem madd (ac : Acc) (rs rt : Reg) : Statement (.madd ac rs rt) := of_index 151 rfl rfl rfl (fieldOp_instrWord ..)

theorem maddu (ac : Acc) (rs rt : Reg) : Statement (.maddu ac rs rt) := of_index 152 rfl rfl rfl (fieldOp_instrWord ..)

theorem msub (ac : Acc) (rs rt : Reg) : Statement (.msub ac rs rt) := of_index 153 rfl rfl rfl (fieldOp_instrWord ..)

theorem msubu (ac : Acc) (rs rt : Reg) : Statement (.msubu ac rs rt) := of_index 154 rfl rfl rfl (fieldOp_instrWord ..)

theorem mult (ac : Acc) (rs rt : Reg) : Statement (.mult ac rs rt) := of_index 155 rfl rfl rfl (fieldOp_instrWord ..)

theorem multu (ac : Acc) (rs rt : Reg) : Statement (.multu ac rs rt) := of_index 156 rfl rfl rfl (fieldOp_instrWord ..)

theorem mfhi (rd : Reg) (ac : Acc) : Statement (.mfhi rd ac) := of_index 157 rfl rfl rfl (fieldOp_instrWord ..)

theorem mflo (rd : Reg) (ac : Acc) : Statement (.mflo rd ac) := of_index 158 rfl rfl rfl (fieldOp_instrWord ..)

theorem mthi (rs : Reg) (ac : Acc) : Statement (.mthi rs ac) := of_index 159 rfl rfl rfl (fieldOp_instrWord ..)

theorem mtlo (rs : Reg) (ac : Acc) : Statement (.mtlo rs ac) := of_index 160 rfl rfl rfl (fieldOp_instrWord ..)

end Sys2Proof.Laws.Row
end

