-- ==== Sys2Proof/Tests/Slice0.lean ====
section
/-!
SUPPORT. The model's own tests: the well-formedness checks refuse ill-formed terms; a word written out from the encoding
figures decodes to every instruction; examples of the rules and of `95_test_vectors.md` on one step; a state and operands
that meet the hypotheses of each statement.
-/

namespace Sys2Proof.Tests

open Sys2Proof.Machine Sys2Proof.Config

/-! ### Ill-formed terms are refused (`30_encoding.md` R87) -/

theorem test_wellFormed_refuses_4_0 :
    (Instr.balign 0 0 4).wellFormed = false ∧ (Instr.balign 0 0 3).wellFormed = true := by decide

theorem test_wellFormed_refuses_8_0 :
    (Instr.shllQb 0 0 8).wellFormed = false ∧ (Instr.shllQb 0 0 7).wellFormed = true ∧
    (Instr.shrlQb 0 0 8).wellFormed = false ∧ (Instr.shrlQb 0 0 7).wellFormed = true ∧
    (Instr.shraQb 0 0 8).wellFormed = false ∧ (Instr.shraQb 0 0 7).wellFormed = true ∧
    (Instr.shraRQb 0 0 8).wellFormed = false ∧ (Instr.shraRQb 0 0 7).wellFormed = true := by decide

theorem test_wellFormed_refuses_16_0 :
    (Instr.shllPh 0 0 16).wellFormed = false ∧ (Instr.shllPh 0 0 15).wellFormed = true ∧
    (Instr.shraPh 0 0 16).wellFormed = false ∧ (Instr.shraPh 0 0 15).wellFormed = true ∧
    (Instr.shllSPh 0 0 16).wellFormed = false ∧ (Instr.shllSPh 0 0 15).wellFormed = true ∧
    (Instr.shraRPh 0 0 16).wellFormed = false ∧ (Instr.shraRPh 0 0 15).wellFormed = true ∧
    (Instr.shrlPh 0 0 16).wellFormed = false ∧ (Instr.shrlPh 0 0 15).wellFormed = true := by decide

theorem test_wellFormed_refuses_32_0 :
    (Instr.precrSraPhW 0 0 32).wellFormed = false ∧ (Instr.precrSraPhW 0 0 31).wellFormed = true ∧
    (Instr.precrSraRPhW 0 0 32).wellFormed = false ∧ (Instr.precrSraRPhW 0 0 31).wellFormed = true ∧
    (Instr.shllSW 0 0 32).wellFormed = false ∧ (Instr.shllSW 0 0 31).wellFormed = true ∧
    (Instr.shraRW 0 0 32).wellFormed = false ∧ (Instr.shraRW 0 0 31).wellFormed = true ∧
    (Instr.append 0 0 32).wellFormed = false ∧ (Instr.append 0 0 31).wellFormed = true ∧
    (Instr.prepend 0 0 32).wellFormed = false ∧ (Instr.prepend 0 0 31).wellFormed = true ∧
    (Instr.extrW 0 0 32).wellFormed = false ∧ (Instr.extrW 0 0 31).wellFormed = true ∧
    (Instr.extp 0 0 32).wellFormed = false ∧ (Instr.extp 0 0 31).wellFormed = true := by decide

theorem test_wellFormed_refuses_32_1 :
    (Instr.extrRW 0 0 32).wellFormed = false ∧ (Instr.extrRW 0 0 31).wellFormed = true ∧
    (Instr.extrRsW 0 0 32).wellFormed = false ∧ (Instr.extrRsW 0 0 31).wellFormed = true ∧
    (Instr.extpdp 0 0 32).wellFormed = false ∧ (Instr.extpdp 0 0 31).wellFormed = true ∧
    (Instr.extrSH 0 0 32).wellFormed = false ∧ (Instr.extrSH 0 0 31).wellFormed = true := by decide

/-! ### Words written out from the encoding figures (`30_encoding.md` R71 to R86) -/

theorem test_decode_R3_0 :
    decodeWord 0b011111_01111_11100_10010_00000_010000#32 = .ok (.adduQb 18 15 28) ∧
    decodeWord 0b011111_11100_11110_11001_00001_010000#32 = .ok (.subuQb 25 28 30) ∧
    decodeWord 0b011111_01111_01111_10001_00100_010000#32 = .ok (.adduSQb 17 15 15) ∧
    decodeWord 0b011111_11100_10011_00111_00101_010000#32 = .ok (.subuSQb 7 28 19) ∧
    decodeWord 0b011111_00110_11010_10001_00110_010000#32 = .ok (.muleuSPhQbl 17 6 26) ∧
    decodeWord 0b011111_10000_10101_10100_00111_010000#32 = .ok (.muleuSPhQbr 20 16 21) ∧
    decodeWord 0b011111_11010_00110_00100_01000_010000#32 = .ok (.adduPh 4 26 6) ∧
    decodeWord 0b011111_01111_01010_00101_01001_010000#32 = .ok (.subuPh 5 15 10) ∧
    decodeWord 0b011111_00011_10010_11010_01010_010000#32 = .ok (.addqPh 26 3 18) ∧
    decodeWord 0b011111_11101_10111_10101_01011_010000#32 = .ok (.subqPh 21 29 23) ∧
    decodeWord 0b011111_00010_10100_01101_01100_010000#32 = .ok (.adduSPh 13 2 20) ∧
    decodeWord 0b011111_11111_01111_10101_01101_010000#32 = .ok (.subuSPh 21 31 15) := by
  decide

theorem test_decode_R3_1 :
    decodeWord 0b011111_11000_10100_10101_01110_010000#32 = .ok (.addqSPh 21 24 20) ∧
    decodeWord 0b011111_00110_10100_00001_01111_010000#32 = .ok (.subqSPh 1 6 20) ∧
    decodeWord 0b011111_11011_10001_00011_10000_010000#32 = .ok (.addsc 3 27 17) ∧
    decodeWord 0b011111_00010_00010_00111_10001_010000#32 = .ok (.addwc 7 2 2) ∧
    decodeWord 0b011111_11101_01000_10100_10010_010000#32 = .ok (.modsub 20 29 8) ∧
    decodeWord 0b011111_00001_11001_01111_10110_010000#32 = .ok (.addqSW 15 1 25) ∧
    decodeWord 0b011111_01011_01111_10011_10111_010000#32 = .ok (.subqSW 19 11 15) ∧
    decodeWord 0b011111_11011_00111_10001_11100_010000#32 = .ok (.muleqSWPhl 17 27 7) ∧
    decodeWord 0b011111_01000_10101_01010_11101_010000#32 = .ok (.muleqSWPhr 10 8 21) ∧
    decodeWord 0b011111_10000_00001_10110_11110_010000#32 = .ok (.mulqSPh 22 16 1) ∧
    decodeWord 0b011111_00011_01111_10101_11111_010000#32 = .ok (.mulqRsPh 21 3 15) ∧
    decodeWord 0b011111_01011_11001_01000_00011_010001#32 = .ok (.pickQb 8 11 25) := by
  decide

theorem test_decode_R3_2 :
    decodeWord 0b011111_10001_01010_00001_00100_010001#32 = .ok (.cmpguEqQb 1 17 10) ∧
    decodeWord 0b011111_00011_10011_11001_00101_010001#32 = .ok (.cmpguLtQb 25 3 19) ∧
    decodeWord 0b011111_00100_01101_00100_00110_010001#32 = .ok (.cmpguLeQb 4 4 13) ∧
    decodeWord 0b011111_11100_10110_00001_01011_010001#32 = .ok (.pickPh 1 28 22) ∧
    decodeWord 0b011111_00111_00111_11110_01100_010001#32 = .ok (.precrqQbPh 30 7 7) ∧
    decodeWord 0b011111_11110_00010_10000_01101_010001#32 = .ok (.precrQbPh 16 30 2) ∧
    decodeWord 0b011111_01101_10111_01101_01110_010001#32 = .ok (.packrlPh 13 13 23) ∧
    decodeWord 0b011111_01110_00011_10011_01111_010001#32 = .ok (.precrquSQbPh 19 14 3) ∧
    decodeWord 0b011111_10101_00111_11001_10100_010001#32 = .ok (.precrqPhW 25 21 7) ∧
    decodeWord 0b011111_10110_01001_01011_10101_010001#32 = .ok (.precrqRsPhW 11 22 9) ∧
    decodeWord 0b011111_00011_01010_01011_11000_010001#32 = .ok (.cmpgduEqQb 11 3 10) ∧
    decodeWord 0b011111_00001_11111_01110_11001_010001#32 = .ok (.cmpgduLtQb 14 1 31) := by
  decide

theorem test_decode_R3_3 :
    decodeWord 0b011111_11001_11110_00100_11010_010001#32 = .ok (.cmpgduLeQb 4 25 30) ∧
    decodeWord 0b011111_11001_10100_01011_00010_010011#32 = .ok (.shllvQb 11 20 25) ∧
    decodeWord 0b011111_11011_01010_01101_00011_010011#32 = .ok (.shrlvQb 13 10 27) ∧
    decodeWord 0b011111_01000_00001_10100_00110_010011#32 = .ok (.shravQb 20 1 8) ∧
    decodeWord 0b011111_01100_01100_10100_00111_010011#32 = .ok (.shravRQb 20 12 12) ∧
    decodeWord 0b011111_10011_00101_11100_01010_010011#32 = .ok (.shllvPh 28 5 19) ∧
    decodeWord 0b011111_01101_00110_10101_01011_010011#32 = .ok (.shravPh 21 6 13) ∧
    decodeWord 0b011111_01000_11000_00111_01110_010011#32 = .ok (.shllvSPh 7 24 8) ∧
    decodeWord 0b011111_00110_11000_10101_01111_010011#32 = .ok (.shravRPh 21 24 6) ∧
    decodeWord 0b011111_11101_10000_10100_10110_010011#32 = .ok (.shllvSW 20 16 29) ∧
    decodeWord 0b011111_00011_01110_00010_10111_010011#32 = .ok (.shravRW 2 14 3) ∧
    decodeWord 0b011111_10001_11111_01001_11011_010011#32 = .ok (.shrlvPh 9 31 17) := by
  decide

theorem test_decode_R3_4 :
    decodeWord 0b011111_01000_11000_10111_00000_011000#32 = .ok (.adduhQb 23 8 24) ∧
    decodeWord 0b011111_01101_01001_01110_00001_011000#32 = .ok (.subuhQb 14 13 9) ∧
    decodeWord 0b011111_11011_11101_10100_00010_011000#32 = .ok (.adduhRQb 20 27 29) ∧
    decodeWord 0b011111_10000_01010_10001_00011_011000#32 = .ok (.subuhRQb 17 16 10) ∧
    decodeWord 0b011111_00110_11110_11000_01000_011000#32 = .ok (.addqhPh 24 6 30) ∧
    decodeWord 0b011111_00011_00101_01000_01001_011000#32 = .ok (.subqhPh 8 3 5) ∧
    decodeWord 0b011111_10000_10010_10101_01010_011000#32 = .ok (.addqhRPh 21 16 18) ∧
    decodeWord 0b011111_11100_10100_10100_01011_011000#32 = .ok (.subqhRPh 20 28 20) ∧
    decodeWord 0b011111_00011_01001_00111_01100_011000#32 = .ok (.mulPh 7 3 9) ∧
    decodeWord 0b011111_11110_11110_00111_01110_011000#32 = .ok (.mulSPh 7 30 30) ∧
    decodeWord 0b011111_11000_00001_00011_10000_011000#32 = .ok (.addqhW 3 24 1) ∧
    decodeWord 0b011111_01001_01110_01111_10001_011000#32 = .ok (.subqhW 15 9 14) := by
  decide

theorem test_decode_R3_5 :
    decodeWord 0b011111_01000_00010_00010_10010_011000#32 = .ok (.addqhRW 2 8 2) ∧
    decodeWord 0b011111_00110_01010_01100_10011_011000#32 = .ok (.subqhRW 12 6 10) ∧
    decodeWord 0b011111_10001_10011_00101_10110_011000#32 = .ok (.mulqSW 5 17 19) ∧
    decodeWord 0b011111_00011_01100_00101_10111_011000#32 = .ok (.mulqRsW 5 3 12) := by
  decide

theorem test_decode_RSRD_0 :
    decodeWord 0b011111_01001_00000_01110_10100_010000#32 = .ok (.radduWQb 14 9) := by
  decide

theorem test_decode_CMP_0 :
    decodeWord 0b011111_10010_11110_00000_00000_010001#32 = .ok (.cmpuEqQb 18 30) ∧
    decodeWord 0b011111_11011_00011_00000_00001_010001#32 = .ok (.cmpuLtQb 27 3) ∧
    decodeWord 0b011111_10111_01001_00000_00010_010001#32 = .ok (.cmpuLeQb 23 9) ∧
    decodeWord 0b011111_11100_01010_00000_01000_010001#32 = .ok (.cmpEqPh 28 10) ∧
    decodeWord 0b011111_01101_00011_00000_01001_010001#32 = .ok (.cmpLtPh 13 3) ∧
    decodeWord 0b011111_11111_00001_00000_01010_010001#32 = .ok (.cmpLePh 31 1) := by
  decide

theorem test_decode_SA_0 :
    decodeWord 0b011111_00101_01000_10111_11110_010001#32 = .ok (.precrSraPhW 8 5 23) ∧
    decodeWord 0b011111_00100_00001_00010_11111_010001#32 = .ok (.precrSraRPhW 1 4 2) ∧
    decodeWord 0b011111_00011_00011_10101_00000_110001#32 = .ok (.append 3 3 21) ∧
    decodeWord 0b011111_00100_01001_11101_00001_110001#32 = .ok (.prepend 9 4 29) := by
  decide

theorem test_decode_R2_0 :
    decodeWord 0b011111_00000_01111_11010_00001_010010#32 = .ok (.absqSQb 26 15) ∧
    decodeWord 0b011111_00000_10110_10010_00011_010010#32 = .ok (.replvQb 18 22) ∧
    decodeWord 0b011111_00000_00111_01111_00100_010010#32 = .ok (.precequPhQbl 15 7) ∧
    decodeWord 0b011111_00000_10001_00111_00101_010010#32 = .ok (.precequPhQbr 7 17) ∧
    decodeWord 0b011111_00000_11000_11001_00110_010010#32 = .ok (.precequPhQbla 25 24) ∧
    decodeWord 0b011111_00000_00101_01110_00111_010010#32 = .ok (.precequPhQbra 14 5) ∧
    decodeWord 0b011111_00000_10101_01101_01001_010010#32 = .ok (.absqSPh 13 21) ∧
    decodeWord 0b011111_00000_01110_00111_01011_010010#32 = .ok (.replvPh 7 14) ∧
    decodeWord 0b011111_00000_00001_01001_01100_010010#32 = .ok (.preceqWPhl 9 1) ∧
    decodeWord 0b011111_00000_11100_11010_01101_010010#32 = .ok (.preceqWPhr 26 28) ∧
    decodeWord 0b011111_00000_10011_01010_10001_010010#32 = .ok (.absqSW 10 19) ∧
    decodeWord 0b011111_00000_11101_00001_11011_010010#32 = .ok (.bitrev 1 29) := by
  decide

theorem test_decode_R2_1 :
    decodeWord 0b011111_00000_00111_00110_11100_010010#32 = .ok (.preceuPhQbl 6 7) ∧
    decodeWord 0b011111_00000_01101_11100_11101_010010#32 = .ok (.preceuPhQbr 28 13) ∧
    decodeWord 0b011111_00000_10100_10101_11110_010010#32 = .ok (.preceuPhQbla 21 20) ∧
    decodeWord 0b011111_00000_10011_00100_11111_010010#32 = .ok (.preceuPhQbra 4 19) := by
  decide

theorem test_decode_IMM8_0 :
    decodeWord 0b011111_00_01111101_00110_00010_010010#32 = .ok (.replQb 6 0x7d#8) := by
  decide

theorem test_decode_IMM10_0 :
    decodeWord 0b011111_0001111000_01101_01010_010010#32 = .ok (.replPh 13 0x78#10) := by
  decide

theorem test_decode_SHQB_0 :
    decodeWord 0b011111_00_001_00101_00111_00000_010011#32 = .ok (.shllQb 7 5 1) ∧
    decodeWord 0b011111_00_100_01001_00001_00001_010011#32 = .ok (.shrlQb 1 9 4) ∧
    decodeWord 0b011111_00_001_00011_00011_00100_010011#32 = .ok (.shraQb 3 3 1) ∧
    decodeWord 0b011111_00_010_10011_10101_00101_010011#32 = .ok (.shraRQb 21 19 2) := by
  decide

theorem test_decode_SHPH_0 :
    decodeWord 0b011111_0_1000_00101_11111_01000_010011#32 = .ok (.shllPh 31 5 8) ∧
    decodeWord 0b011111_0_1010_10000_11011_01001_010011#32 = .ok (.shraPh 27 16 10) ∧
    decodeWord 0b011111_0_0011_01010_11110_01100_010011#32 = .ok (.shllSPh 30 10 3) ∧
    decodeWord 0b011111_0_0100_11011_10100_01101_010011#32 = .ok (.shraRPh 20 27 4) ∧
    decodeWord 0b011111_0_0010_00100_00010_11001_010011#32 = .ok (.shrlPh 2 4 2) := by
  decide

theorem test_decode_SHW_0 :
    decodeWord 0b011111_11111_10010_00111_10100_010011#32 = .ok (.shllSW 7 18 31) ∧
    decodeWord 0b011111_10110_11111_01101_10101_010011#32 = .ok (.shraRW 13 31 22) := by
  decide

theorem test_decode_AC_0 :
    decodeWord 0b011111_11101_01111_000_10_00000_110000#32 = .ok (.dpaWPh 2 29 15) ∧
    decodeWord 0b011111_10110_11000_000_11_00001_110000#32 = .ok (.dpsWPh 3 22 24) ∧
    decodeWord 0b011111_10001_10011_000_01_00010_110000#32 = .ok (.mulsaWPh 1 17 19) ∧
    decodeWord 0b011111_10011_00010_000_01_00011_110000#32 = .ok (.dpauHQbl 1 19 2) ∧
    decodeWord 0b011111_10000_11110_000_10_00100_110000#32 = .ok (.dpaqSWPh 2 16 30) ∧
    decodeWord 0b011111_10111_01010_000_01_00101_110000#32 = .ok (.dpsqSWPh 1 23 10) ∧
    decodeWord 0b011111_00001_10100_000_11_00110_110000#32 = .ok (.mulsaqSWPh 3 1 20) ∧
    decodeWord 0b011111_00011_10000_000_01_00111_110000#32 = .ok (.dpauHQbr 1 3 16) ∧
    decodeWord 0b011111_11000_01010_000_10_01000_110000#32 = .ok (.dpaxWPh 2 24 10) ∧
    decodeWord 0b011111_00101_00011_000_01_01001_110000#32 = .ok (.dpsxWPh 1 5 3) ∧
    decodeWord 0b011111_01111_10010_000_10_01011_110000#32 = .ok (.dpsuHQbl 2 15 18) ∧
    decodeWord 0b011111_11000_00010_000_11_01100_110000#32 = .ok (.dpaqSaLW 3 24 2) := by
  decide

theorem test_decode_AC_1 :
    decodeWord 0b011111_11000_10111_000_01_01101_110000#32 = .ok (.dpsqSaLW 1 24 23) ∧
    decodeWord 0b011111_11010_11111_000_10_01111_110000#32 = .ok (.dpsuHQbr 2 26 31) ∧
    decodeWord 0b011111_01100_00011_000_11_10000_110000#32 = .ok (.maqSaWPhl 3 12 3) ∧
    decodeWord 0b011111_10000_11101_000_01_10010_110000#32 = .ok (.maqSaWPhr 1 16 29) ∧
    decodeWord 0b011111_11100_11100_000_10_10100_110000#32 = .ok (.maqSWPhl 2 28 28) ∧
    decodeWord 0b011111_11111_11010_000_01_10110_110000#32 = .ok (.maqSWPhr 1 31 26) ∧
    decodeWord 0b011111_11100_10000_000_11_11000_110000#32 = .ok (.dpaqxSWPh 3 28 16) ∧
    decodeWord 0b011111_00001_10100_000_11_11001_110000#32 = .ok (.dpsqxSWPh 3 1 20) ∧
    decodeWord 0b011111_01101_01101_000_11_11010_110000#32 = .ok (.dpaqxSaWPh 3 13 13) ∧
    decodeWord 0b011111_00001_10100_000_01_11011_110000#32 = .ok (.dpsqxSaWPh 1 1 20) := by
  decide

theorem test_decode_BP_0 :
    decodeWord 0b011111_01110_11000_000_10_10000_110001#32 = .ok (.balign 24 14 2) := by
  decide

theorem test_decode_EXTI_0 :
    decodeWord 0b011111_01101_11110_000_11_00000_111000#32 = .ok (.extrW 30 3 13) ∧
    decodeWord 0b011111_01111_01111_000_11_00010_111000#32 = .ok (.extp 15 3 15) ∧
    decodeWord 0b011111_00001_01010_000_11_00100_111000#32 = .ok (.extrRW 10 3 1) ∧
    decodeWord 0b011111_01000_11111_000_11_00110_111000#32 = .ok (.extrRsW 31 3 8) ∧
    decodeWord 0b011111_10110_11110_000_10_01010_111000#32 = .ok (.extpdp 30 2 22) ∧
    decodeWord 0b011111_01100_01010_000_01_01110_111000#32 = .ok (.extrSH 10 1 12) := by
  decide

theorem test_decode_EXTV_0 :
    decodeWord 0b011111_10111_10011_000_10_00001_111000#32 = .ok (.extrvW 19 2 23) ∧
    decodeWord 0b011111_00011_10001_000_11_00011_111000#32 = .ok (.extpv 17 3 3) ∧
    decodeWord 0b011111_00011_10000_000_01_00101_111000#32 = .ok (.extrvRW 16 1 3) ∧
    decodeWord 0b011111_00100_10000_000_11_00111_111000#32 = .ok (.extrvRsW 16 3 4) ∧
    decodeWord 0b011111_01001_11101_000_01_01011_111000#32 = .ok (.extpdpv 29 1 9) ∧
    decodeWord 0b011111_10110_10100_000_01_01111_111000#32 = .ok (.extrvSH 20 1 22) := by
  decide

theorem test_decode_RDDSP_0 :
    decodeWord 0b011111_1000010011_00110_10010_111000#32 = .ok (.rddsp 6 0x213#10) := by
  decide

theorem test_decode_WRDSP_0 :
    decodeWord 0b011111_11001_1110100000_10011_111000#32 = .ok (.wrdsp 25 0x3a0#10) := by
  decide

theorem test_decode_SHILO_0 :
    decodeWord 0b011111_010110_0000_000_11_11010_111000#32 = .ok (.shilo 3 0x16#6) := by
  decide

theorem test_decode_SHILOV_0 :
    decodeWord 0b011111_11110_00000_000_10_11011_111000#32 = .ok (.shilov 2 30) := by
  decide

theorem test_decode_MTHLIP_0 :
    decodeWord 0b011111_10000_00000_000_01_11111_111000#32 = .ok (.mthlip 16 1) := by
  decide

theorem test_decode_LX_0 :
    decodeWord 0b011111_01011_01101_10110_00000_001010#32 = .ok (.lwx 22 13 11) ∧
    decodeWord 0b011111_01001_00111_10101_00100_001010#32 = .ok (.lhx 21 7 9) ∧
    decodeWord 0b011111_01110_11010_11010_00110_001010#32 = .ok (.lbux 26 26 14) ∧
    decodeWord 0b011111_11001_11110_00111_01000_001010#32 = .ok (.ldx 7 30 25) := by
  decide

theorem test_decode_INSV_0 :
    decodeWord 0b011111_11101_00111_00000_00000_001100#32 = .ok (.insv 7 29) := by
  decide

theorem test_decode_BPOS_0 :
    decodeWord 0b000001_00000_11100_0110001001101010#32 = .ok (.bposge32 0x626a#16) ∧
    decodeWord 0b000001_00000_11000_0011100000110111#32 = .ok (.bposge32c 0x3837#16) := by
  decide

theorem test_decode_MAC2_0 :
    decodeWord 0b011100_10011_11110_000_10_00000_000000#32 = .ok (.madd 2 19 30) ∧
    decodeWord 0b011100_00111_00101_000_01_00000_000001#32 = .ok (.maddu 1 7 5) ∧
    decodeWord 0b011100_10000_01100_000_01_00000_000100#32 = .ok (.msub 1 16 12) ∧
    decodeWord 0b011100_10111_00011_000_10_00000_000101#32 = .ok (.msubu 2 23 3) := by
  decide

theorem test_decode_MULT_0 :
    decodeWord 0b000000_11011_00110_000_01_00000_011000#32 = .ok (.mult 1 27 6) ∧
    decodeWord 0b000000_01111_10000_000_10_00000_011001#32 = .ok (.multu 2 15 16) := by
  decide

theorem test_decode_MFHL_0 :
    decodeWord 0b000000_000_01_00000_11011_00000_010000#32 = .ok (.mfhi 27 1) ∧
    decodeWord 0b000000_000_10_00000_01101_00000_010010#32 = .ok (.mflo 13 2) := by
  decide

theorem test_decode_MTHL_0 :
    decodeWord 0b000000_10101_00000_000_11_00000_010001#32 = .ok (.mthi 21 3) ∧
    decodeWord 0b000000_10000_00000_000_11_00000_010011#32 = .ok (.mtlo 16 3) := by
  decide

/-- A word no table lists, words with a must-be-zero field not zero, too few bytes, and the same word in both byte
orders. -/
theorem test_decode_rejects :
    decodeWord 0#32 = .error .unassigned ∧
    decodeWord 0b011111_00001_00010_00011_00010_010000#32 = .error .unassigned ∧
    decodeWord 0b011111_00001_00010_00011_01001_010010#32 = .error .reservedField ∧
    decodeWord 0b000001_00001_11100_0000000000000000#32 = .error .reservedField ∧
    decodeBytes false [0x10#8, 0x18#8, 0x22#8] = .error .truncated ∧
    decodeBytes false [0x10#8, 0x18#8, 0x22#8, 0x7C#8] = .ok (.adduQb 3 1 2, []) ∧
    decodeBytes true [0x7C#8, 0x22#8, 0x18#8, 0x10#8] = .ok (.adduQb 3 1 2, []) := by
  decide

/-! ### One step each, from the examples of `95_test_vectors.md` -/

/-- The reset machine with the Module enabled. -/
def ready : State := State.reset.setDspEnabled true

/-- `GPR[1]`, `GPR[2]`, accumulator 1 and `DSPControl` as given. -/
def given (rs rt hi lo : DWord) (control : Word) : State :=
  (((ready.setGpr 1 rs).setGpr 2 rt).setHiLo 1 hi lo).setControl control

/-- What register `r` and `DSPControl` hold after the instruction. -/
def gprAfter (r : Reg) (i : Instr) (s : State) : Option (DWord × Word) :=
  match exec i s with
  | .next t => some (t.gpr r, t.dspControl)
  | _ => none

/-- What accumulator 1 and `DSPControl` hold after the instruction. -/
def accAfter (i : Instr) (s : State) : Option (DWord × DWord × Word) :=
  match exec i s with
  | .next t => some (t.hi 1, t.lo 1, t.dspControl)
  | _ => none

theorem test_vectors_AddSub_0 :
    gprAfter 3 (.absqSPh 3 2) (given 0x1111 0x80008000 0x55 0x66 0) =
      some (0x7fff7fff, 0x100000) ∧
    gprAfter 3 (.absqSQb 3 2) (given 0x1111 0x80808080 0x55 0x66 0) =
      some (0x7f7f7f7f, 0x100000) ∧
    gprAfter 3 (.absqSW 3 2) (given 0x1111 0xffffffff80000000 0x55 0x66 0) =
      some (0x7fffffff, 0x100000) ∧
    gprAfter 3 (.addqPh 3 1 2) (given 0x7fff0001 0x10001 0x55 0x66 0) =
      some (0xffffffff80000002, 0x100000) ∧
    gprAfter 3 (.addqSPh 3 1 2) (given 0x7fff8000 0x7fff8000 0x55 0x66 0) =
      some (0x7fff8000, 0x100000) ∧
    gprAfter 3 (.addqSW 3 1 2) (given 0x7fffffff 0x7fffffff 0x55 0x66 0) =
      some (0x7fffffff, 0x100000) := by
  decide

theorem test_vectors_AddSub_1 :
    gprAfter 3 (.addqhPh 3 1 2) (given 0x7fff8000 0x7fff8000 0x55 0x66 0) =
      some (0x7fff8000, 0) ∧
    gprAfter 3 (.addqhRPh 3 1 2) (given 0x10003 0x20004 0x55 0x66 0) =
      some (0x20004, 0) ∧
    gprAfter 3 (.addqhW 3 1 2) (given 1 2 0x55 0x66 0) =
      some (1, 0) ∧
    gprAfter 3 (.addqhRW 3 1 2) (given 1 2 0x55 0x66 0) =
      some (2, 0) ∧
    gprAfter 3 (.addsc 3 1 2) (given 0xffffffff 1 0x55 0x66 0) =
      some (0, 0x2000) ∧
    gprAfter 3 (.addwc 3 1 2) (given 0x7fffffff 0 0x55 0x66 0x2000) =
      some (0xffffffff80000000, 0x102000) := by
  decide

theorem test_vectors_AddSub_2 :
    gprAfter 3 (.adduQb 3 1 2) (given 0xff010203 0x1010101 0x55 0x66 0) =
      some (0x20304, 0x100000) ∧
    gprAfter 3 (.adduSQb 3 1 2) (given 0xff80fe01 0x1800101 0x55 0x66 0) =
      some (0xffffffffffffff02, 0x100000) ∧
    gprAfter 3 (.adduPh 3 1 2) (given 0xffff0001 0x10002 0x55 0x66 0) =
      some (3, 0x100000) ∧
    gprAfter 3 (.adduSPh 3 1 2) (given 0xffff8000 0x18000 0x55 0x66 0) =
      some (0xffffffffffffffff, 0x100000) ∧
    gprAfter 3 (.adduhQb 3 1 2) (given 0xff01fe03 0xff020104 0x55 0x66 0) =
      some (0xffffffffff017f03, 0) ∧
    gprAfter 3 (.adduhRQb 3 1 2) (given 0xff01fe03 0xff020104 0x55 0x66 0) =
      some (0xffffffffff028004, 0) := by
  decide

theorem test_vectors_AddSub_3 :
    gprAfter 3 (.modsub 3 1 2) (given 0 0x123405 0x55 0x66 0) =
      some (0x1234, 0) ∧
    gprAfter 3 (.radduWQb 3 1) (given 0xffffffff 0x2222 0x55 0x66 0) =
      some (0x3fc, 0) ∧
    gprAfter 3 (.subqPh 3 1 2) (given 0xffffffff80000005 0x10003 0x55 0x66 0) =
      some (0x7fff0002, 0x100000) ∧
    gprAfter 3 (.subqSPh 3 1 2) (given 0x7fff8000 0x80007fff 0x55 0x66 0) =
      some (0x7fff8000, 0x100000) ∧
    gprAfter 3 (.subqSW 3 1 2) (given 0x7fffffff 0xffffffff80000000 0x55 0x66 0) =
      some (0x7fffffff, 0x100000) ∧
    gprAfter 3 (.subqhPh 3 1 2) (given 0xffffffff80007fff 0x7fff8000 0x55 0x66 0) =
      some (0xffffffff80007fff, 0) := by
  decide

theorem test_vectors_AddSub_4 :
    gprAfter 3 (.subqhRPh 3 1 2) (given 0xffffffff80007fff 0x7fff8000 0x55 0x66 0) =
      some (0xffffffff80018000, 0) ∧
    gprAfter 3 (.subqhW 3 1 2) (given 5 2 0x55 0x66 0) =
      some (1, 0) ∧
    gprAfter 3 (.subqhRW 3 1 2) (given 5 2 0x55 0x66 0) =
      some (2, 0) ∧
    gprAfter 3 (.subuQb 3 1 2) (given 0x1050505 0x2010203 0x55 0x66 0) =
      some (0xffffffffff040302, 0x100000) ∧
    gprAfter 3 (.subuSQb 3 1 2) (given 0x1807f 0x1028180 0x55 0x66 0) =
      some (0, 0x100000) ∧
    gprAfter 3 (.subuPh 3 1 2) (given 0x10005 0x20003 0x55 0x66 0) =
      some (0xffffffffffff0002, 0x100000) := by
  decide

theorem test_vectors_AddSub_5 :
    gprAfter 3 (.subuSPh 3 1 2) (given 0x17fff 0x28000 0x55 0x66 0) =
      some (0, 0x100000) ∧
    gprAfter 3 (.subuhQb 3 1 2) (given 0xff0510 0x101030f 0x55 0x66 0) =
      some (0xffffffffff7f0100, 0) ∧
    gprAfter 3 (.subuhRQb 3 1 2) (given 0xff0510 0x101030f 0x55 0x66 0) =
      some (0x7f0101, 0) := by
  decide

theorem test_vectors_BitPack_0 :
    gprAfter 2 (.append 2 1 8) (given 0xffffffffffffffab 0x12345678 0x55 0x66 0) =
      some (0x345678ab, 0) ∧
    gprAfter 2 (.balign 2 1 1) (given 0xffffffffaabbccdd 0x11223344 0x55 0x66 0) =
      some (0x223344aa, 0) ∧
    gprAfter 3 (.bitrev 3 2) (given 0x1111 0xffffffffffff0001 0x55 0x66 0) =
      some (0x8000, 0) ∧
    gprAfter 3 (.packrlPh 3 1 2) (given 0x1111abcd 0x12342222 0x55 0x66 0) =
      some (0xffffffffabcd1234, 0) ∧
    gprAfter 2 (.prepend 2 1 8) (given 0xab 0x12345678 0x55 0x66 0) =
      some (0xffffffffab123456, 0) ∧
    gprAfter 2 (.insv 2 1) (given 0xab 0xffffffffffff0000 0x55 0x66 0x404) =
      some (0xffffffffffff0ab0, 0x404) := by
  decide

theorem test_vectors_BitPack_1 :
    gprAfter 3 (.preceqWPhl 3 2) (given 0x1111 0x80001234 0x55 0x66 0) =
      some (0xffffffff80000000, 0) ∧
    gprAfter 3 (.preceqWPhr 3 2) (given 0x1111 0x80001234 0x55 0x66 0) =
      some (0x12340000, 0) ∧
    gprAfter 3 (.precequPhQbl 3 2) (given 0x1111 0xffffffffff80017f 0x55 0x66 0) =
      some (0x7f804000, 0) ∧
    gprAfter 3 (.precequPhQbr 3 2) (given 0x1111 0xffffffffff80017f 0x55 0x66 0) =
      some (0x803f80, 0) ∧
    gprAfter 3 (.precequPhQbla 3 2) (given 0x1111 0xffffffffff80017f 0x55 0x66 0) =
      some (0x7f800080, 0) ∧
    gprAfter 3 (.precequPhQbra 3 2) (given 0x1111 0xffffffffff80017f 0x55 0x66 0) =
      some (0x40003f80, 0) := by
  decide

theorem test_vectors_BitPack_2 :
    gprAfter 3 (.preceuPhQbl 3 2) (given 0x1111 0xffffffffff80017f 0x55 0x66 0) =
      some (0xff0080, 0) ∧
    gprAfter 3 (.preceuPhQbr 3 2) (given 0x1111 0xffffffffff80017f 0x55 0x66 0) =
      some (0x1007f, 0) ∧
    gprAfter 3 (.preceuPhQbla 3 2) (given 0x1111 0xffffffffff80017f 0x55 0x66 0) =
      some (0xff0001, 0) ∧
    gprAfter 3 (.preceuPhQbra 3 2) (given 0x1111 0xffffffffff80017f 0x55 0x66 0) =
      some (0x80007f, 0) ∧
    gprAfter 3 (.precrQbPh 3 1 2) (given 0xffffffff81234567 0x9abcdef 0x55 0x66 0) =
      some (0x2367abef, 0) ∧
    gprAfter 3 (.precrqQbPh 3 1 2) (given 0xffffffff81234567 0x9abcdef 0x55 0x66 0) =
      some (0xffffffff814509cd, 0) := by
  decide

theorem test_vectors_BitPack_3 :
    gprAfter 3 (.precrqPhW 3 1 2) (given 0xffffffff81234567 0x9abcdef 0x55 0x66 0) =
      some (0xffffffff812309ab, 0) ∧
    gprAfter 3 (.precrqRsPhW 3 1 2) (given 0x7fffffff 0x7fff7fff 0x55 0x66 0) =
      some (0x7fff7fff, 0x400000) ∧
    gprAfter 3 (.precrquSQbPh 3 1 2) (given 0x7f81ffff 0x7f800001 0x55 0x66 0) =
      some (0xffffffffff00ff00, 0x400000) ∧
    gprAfter 2 (.precrSraPhW 2 1 4) (given 0xffffffffffff8001 0x12345678 0x55 0x66 0) =
      some (0x4567f800, 0) ∧
    gprAfter 2 (.precrSraRPhW 2 1 4) (given 0xffffffffffff8001 0x12345678 0x55 0x66 0) =
      some (0x4568f800, 0) ∧
    gprAfter 3 (.replPh 3 0x200#10) (given 0x1111 0x2222 0x55 0x66 0) =
      some (0xfffffffffe00fe00, 0) := by
  decide

theorem test_vectors_BitPack_4 :
    gprAfter 3 (.replQb 3 0x80#8) (given 0x1111 0x2222 0x55 0x66 0) =
      some (0xffffffff80808080, 0) ∧
    gprAfter 3 (.replvPh 3 2) (given 0x1111 0xfe00 0x55 0x66 0) =
      some (0xfffffffffe00fe00, 0) ∧
    gprAfter 3 (.replvQb 3 2) (given 0x1111 0x12345680 0x55 0x66 0) =
      some (0xffffffff80808080, 0) := by
  decide

theorem test_vectors_ComparePick_0 :
    gprAfter 3 (.cmpguEqQb 3 1 2) (given 0x80ff0001 0x7fff0100 0x55 0x66 0xaa000000) =
      some (4, 0xaa000000) ∧
    gprAfter 3 (.cmpguLtQb 3 1 2) (given 0x80ff0001 0x7fff0100 0x55 0x66 0) =
      some (2, 0) ∧
    gprAfter 3 (.cmpguLeQb 3 1 2) (given 0x80ff0001 0x7fff0100 0x55 0x66 0) =
      some (6, 0) ∧
    gprAfter 3 (.pickPh 3 1 2) (given 0xaaaa1111 0xbbbb2222 0x55 0x66 0x2000000) =
      some (0xffffffffaaaa2222, 0x2000000) ∧
    gprAfter 3 (.pickQb 3 1 2) (given 0x11223344 0xffffffffaabbccdd 0x55 0x66 0x5000000) =
      some (0xffffffffaa22cc44, 0x5000000) := by
  decide

theorem test_vectors_Dot_0 :
    accAfter (.dpaWPh 1 1 2) (given 0x20003 0xffffffffffff0004 0 0x10 0) =
      some (0, 0x1a, 0) ∧
    accAfter (.dpsWPh 1 1 2) (given 0x20003 0xffffffffffff0004 0 5 0) =
      some (0xffffffffffffffff, 0xfffffffffffffffb, 0) ∧
    accAfter (.dpaxWPh 1 1 2) (given 0x20003 0xffffffffffff0004 0 0 0) =
      some (0, 5, 0) ∧
    accAfter (.dpsxWPh 1 1 2) (given 0x20003 0xffffffffffff0004 0 0 0) =
      some (0xffffffffffffffff, 0xfffffffffffffffb, 0) ∧
    accAfter (.dpauHQbl 1 1 2) (given 0xff020304 0xffffffffff050607 0 0 0) =
      some (0, 0xfe0b, 0) ∧
    accAfter (.dpauHQbr 1 1 2) (given 0xff020304 0xffffffffff050607 0 0 0) =
      some (0, 0x2e, 0) := by
  decide

theorem test_vectors_Dot_1 :
    accAfter (.dpsuHQbl 1 1 2) (given 0xff020304 0xffffffffff050607 0 0 0) =
      some (0xffffffffffffffff, 0xffffffffffff01f5, 0) ∧
    accAfter (.dpsuHQbr 1 1 2) (given 0xff020304 0xffffffffff050607 0 0x100 0) =
      some (0, 0xd2, 0) ∧
    accAfter (.dpaqSWPh 1 1 2) (given 0x80000000 0x80000000 0 0 0) =
      some (0, 0x7fffffff, 0x20000) ∧
    accAfter (.dpsqSWPh 1 1 2) (given 0x80000000 0x80000000 0 0 0) =
      some (0xffffffffffffffff, 0xffffffff80000001, 0x20000) ∧
    accAfter (.dpaqxSWPh 1 1 2) (given 0x40002000 0x40008000 0 0 0) =
      some (0xffffffffffffffff, 0xffffffffd0000000, 0) ∧
    accAfter (.dpsqxSWPh 1 1 2) (given 0x40002000 0x40008000 0 0 0) =
      some (0, 0x30000000, 0) := by
  decide

theorem test_vectors_Dot_2 :
    accAfter (.dpaqxSaWPh 1 1 2) (given 0x40000000 0x4000 0 0x7fffffff 0) =
      some (0, 0x7fffffff, 0x20000) ∧
    accAfter (.dpsqxSaWPh 1 1 2) (given 0x40000000 0x4000 0xffffffffffffffff 0xffffffff80000000 0) =
      some (0xffffffffffffffff, 0xffffffff80000000, 0x20000) ∧
    accAfter (.dpaqSaLW 1 1 2) (given 0xffffffff80000000 0xffffffff80000000 0 0 0) =
      some (0x7fffffff, 0xffffffffffffffff, 0x20000) ∧
    accAfter (.dpsqSaLW 1 1 2) (given 0xffffffff80000000 0xffffffff80000000 0 0 0) =
      some (0xffffffff80000000, 1, 0x20000) ∧
    accAfter (.mulsaWPh 1 1 2) (given 0x20003 0xffffffffffff0004 0 0 0) =
      some (0xffffffffffffffff, 0xfffffffffffffff2, 0) ∧
    accAfter (.mulsaqSWPh 1 1 2) (given 0x80008000 0x80008000 0 0 0) =
      some (0, 0, 0x20000) := by
  decide

theorem test_vectors_Dot_3 :
    accAfter (.maqSWPhl 1 1 2) (given 0x80000000 0x80000000 0 1 0) =
      some (0, 0xffffffff80000000, 0x20000) ∧
    accAfter (.maqSWPhr 1 1 2) (given 0x4000 0x4000 0 0x10 0) =
      some (0, 0x20000010, 0) ∧
    accAfter (.maqSaWPhl 1 1 2) (given 0x7fff0000 0x80000000 0xffffffffffffffff 0xffffffff80000001 0) =
      some (0xffffffffffffffff, 0xffffffff80000000, 0x20000) ∧
    accAfter (.maqSaWPhr 1 1 2) (given 0x8000 0x8000 0 1 0) =
      some (0, 0x7fffffff, 0x20000) := by
  decide

theorem test_vectors_Accumulator_0 :
    gprAfter 2 (.extp 2 1 7) (given 0x1111 0 0x12345678 0xffffffff9abcdef0 0x27) =
      some (0x78, 0x27) ∧
    gprAfter 2 (.extpv 2 1 1) (given 0x1f 0x2222 0 0xffffffff80000000 0x1f) =
      some (0x80000000, 0x1f) ∧
    gprAfter 2 (.extpdp 2 1 7) (given 0x1111 0x2222 0x12345678 0xffffffff9abcdef0 0x27) =
      some (0x78, 0x1f) ∧
    gprAfter 2 (.extpdpv 2 1 1) (given 7 0x2222 0x12345678 0xffffffff9abcdef0 7) =
      some (0xf0, 0x7f) ∧
    gprAfter 2 (.extrW 2 1 1) (given 0x1111 0x2222 1 0xffffffff80000000 0) =
      some (0xffffffffc0000000, 0x800000) ∧
    gprAfter 2 (.extrRW 2 1 1) (given 0x1111 0x2222 0 0xffffffffffffffff 0) =
      some (0xffffffff80000000, 0x800000) := by
  decide

theorem test_vectors_Accumulator_1 :
    gprAfter 2 (.extrRsW 2 1 1) (given 0x1111 0x2222 0 0xffffffffffffffff 0) =
      some (0x7fffffff, 0x800000) ∧
    gprAfter 2 (.extrvW 2 1 1) (given 0x24 0x2222 0 0x12345678 0) =
      some (0x1234567, 0) ∧
    gprAfter 2 (.extrvRW 2 1 1) (given 4 0x2222 0 0x12345678 0) =
      some (0x1234568, 0) ∧
    gprAfter 2 (.extrvRsW 2 1 1) (given 1 0x2222 0 0xffffffffffffffff 0) =
      some (0x7fffffff, 0x800000) ∧
    gprAfter 2 (.extrSH 2 1 4) (given 0x1111 0x2222 0 0x12345678 0) =
      some (0x7fff, 0x800000) ∧
    gprAfter 2 (.extrvSH 2 1 1) (given 0xf 0x2222 0xffffffffffffffff 0xffffffff80000000 0) =
      some (0xffffffffffff8000, 0x800000) := by
  decide

theorem test_vectors_Accumulator_2 :
    accAfter (.mthlip 1 1) (given 0x11223344 0x2222 0x55 0x9abcdef0 8) =
      some (0xffffffff9abcdef0, 0x11223344, 0x28) ∧
    accAfter (.madd 1 1 2) (given 0xfffffffffffffffe 3 0 5 0) =
      some (0xffffffffffffffff, 0xffffffffffffffff, 0) ∧
    accAfter (.maddu 1 1 2) (given 0xfffffffffffffffe 3 0 5 0) =
      some (2, 0xffffffffffffffff, 0) ∧
    accAfter (.msub 1 1 2) (given 2 3 0 5 0) =
      some (0xffffffffffffffff, 0xffffffffffffffff, 0) ∧
    accAfter (.msubu 1 1 2) (given 0xffffffffffffffff 1 0 5 0) =
      some (0xffffffffffffffff, 6, 0) ∧
    accAfter (.mult 1 1 2) (given 0xfffffffffffffffe 3 0x55 0x66 0) =
      some (0xffffffffffffffff, 0xfffffffffffffffa, 0) := by
  decide

theorem test_vectors_Accumulator_3 :
    accAfter (.multu 1 1 2) (given 0xfffffffffffffffe 3 0x55 0x66 0) =
      some (2, 0xfffffffffffffffa, 0) ∧
    accAfter (.shilo 1 0x4#6) (given 0x1111 0x2222 0x12345678 0xffffffff9abcdef0 0) =
      some (0x1234567, 0xffffffff89abcdef, 0) ∧
    accAfter (.shilov 1 1) (given 1 0x2222 0xffffffffffffffff 0xffffffff80000000 0) =
      some (0x7fffffff, 0xffffffffc0000000, 0) ∧
    gprAfter 3 (.rddsp 3 0x3f#10) (given 0x1111 0x2222 0x55 0x66 0x8f10645a) =
      some (0x8f10645a, 0x8f10645a) ∧
    accAfter (.wrdsp 1 0x8#10) (given 0 0x2222 0x55 0x66 0x8f10645a) =
      some (0x55, 0x66, 0x8f00645a) := by
  decide

theorem test_vectors_Multiply_0 :
    gprAfter 3 (.muleqSWPhl 3 1 2) (given 0x80000000 0x80000000 0x55 0x66 0) =
      some (0x7fffffff, 0x200000) ∧
    gprAfter 3 (.muleqSWPhr 3 1 2) (given 0x8000 0x8000 0x55 0x66 0) =
      some (0x7fffffff, 0x200000) ∧
    gprAfter 3 (.muleuSPhQbl 3 1 2) (given 0x2020000 0x80007fff 0x55 0x66 0) =
      some (0xfffffffffffffffe, 0x200000) ∧
    gprAfter 3 (.muleuSPhQbr 3 1 2) (given 0x310 0x55551000 0x55 0x66 0) =
      some (0xffffffffffffffff, 0x200000) ∧
    gprAfter 3 (.mulqRsPh 3 1 2) (given 0x80008000 0x80008000 0x55 0x66 0) =
      some (0x7fff7fff, 0x200000) ∧
    gprAfter 3 (.mulqSPh 3 1 2) (given 0x80007fff 0x80007fff 0x55 0x66 0) =
      some (0x7fff7ffe, 0x200000) := by
  decide

theorem test_vectors_Multiply_1 :
    gprAfter 3 (.mulqSW 3 1 2) (given 0xffffffff80000000 0xffffffff80000000 0x55 0x66 0) =
      some (0x7fffffff, 0x200000) ∧
    gprAfter 3 (.mulqRsW 3 1 2) (given 0xffffffff80000000 0xffffffff80000000 0x55 0x66 0) =
      some (0x7fffffff, 0x200000) ∧
    gprAfter 3 (.mulPh 3 1 2) (given 0x1000100 0x100ff00 0x55 0x66 0) =
      some (0, 0x200000) ∧
    gprAfter 3 (.mulSPh 3 1 2) (given 0x7fff7fff 0x28000 0x55 0x66 0) =
      some (0x7fff8000, 0x200000) := by
  decide

theorem test_vectors_Shift_0 :
    gprAfter 3 (.shllQb 3 2 1) (given 0x1111 0x102037f 0x55 0x66 0) =
      some (0x20406fe, 0x400000) ∧
    gprAfter 3 (.shllvQb 3 2 1) (given 0xfffffffffffffff4 0x1020304 0x55 0x66 0) =
      some (0x10203040, 0) ∧
    gprAfter 3 (.shllPh 3 2 15) (given 0x1111 0x10001 0x55 0x66 0) =
      some (0xffffffff80008000, 0x400000) ∧
    gprAfter 3 (.shllSPh 3 2 15) (given 0x1111 0x10001 0x55 0x66 0) =
      some (0x7fff7fff, 0x400000) ∧
    gprAfter 3 (.shllvPh 3 2 1) (given 0x11 0xffff8000 0x55 0x66 0) =
      some (0xfffffffffffe0000, 0x400000) ∧
    gprAfter 3 (.shllvSPh 3 2 1) (given 1 0xffff8000 0x55 0x66 0) =
      some (0xfffffffffffe8000, 0x400000) := by
  decide

theorem test_vectors_Shift_1 :
    gprAfter 3 (.shllSW 3 2 16) (given 0x1111 0x10000 0x55 0x66 0) =
      some (0x7fffffff, 0x400000) ∧
    gprAfter 3 (.shllvSW 3 2 1) (given 0x24 0x12345678 0x55 0x66 0) =
      some (0x7fffffff, 0x400000) ∧
    gprAfter 3 (.shrlQb 3 2 1) (given 0x1111 0x80ff7f01 0x55 0x66 0) =
      some (0x407f3f00, 0) ∧
    gprAfter 3 (.shrlvQb 3 2 1) (given 0xc 0xf0804020 0x55 0x66 0) =
      some (0xf080402, 0) ∧
    gprAfter 3 (.shrlPh 3 2 1) (given 0x1111 0x80007fff 0x55 0x66 0) =
      some (0x40003fff, 0) ∧
    gprAfter 3 (.shrlvPh 3 2 1) (given 0x12 0x30005 0x55 0x66 0) =
      some (1, 0) := by
  decide

theorem test_vectors_Shift_2 :
    gprAfter 3 (.shraQb 3 2 1) (given 0x1111 0x80ff7f01 0x55 0x66 0) =
      some (0xffffffffc0ff3f00, 0) ∧
    gprAfter 3 (.shraRQb 3 2 1) (given 0x1111 0x80ff7f01 0x55 0x66 0) =
      some (0xffffffffc0004001, 0) ∧
    gprAfter 3 (.shravQb 3 2 1) (given 9 0x80ff7f01 0x55 0x66 0) =
      some (0xffffffffc0ff3f00, 0) ∧
    gprAfter 3 (.shravRQb 3 2 1) (given 1 0x80ff7f01 0x55 0x66 0) =
      some (0xffffffffc0004001, 0) ∧
    gprAfter 3 (.shraPh 3 2 1) (given 0x1111 0x80007fff 0x55 0x66 0) =
      some (0xffffffffc0003fff, 0) ∧
    gprAfter 3 (.shraRPh 3 2 1) (given 0x1111 0x80007fff 0x55 0x66 0) =
      some (0xffffffffc0004000, 0) := by
  decide

theorem test_vectors_Shift_3 :
    gprAfter 3 (.shravPh 3 2 1) (given 0x1f 0x80007fff 0x55 0x66 0) =
      some (0xffffffffffff0000, 0) ∧
    gprAfter 3 (.shravRPh 3 2 1) (given 0x1f 0x80007fff 0x55 0x66 0) =
      some (0xffffffffffff0001, 0) ∧
    gprAfter 3 (.shraRW 3 2 1) (given 0x1111 0x7fffffff 0x55 0x66 0) =
      some (0x40000000, 0) ∧
    gprAfter 3 (.shravRW 3 2 1) (given 0x21 3 0x55 0x66 0) =
      some (2, 0) := by
  decide

/-- V42, CMP.LT.PH: signed comparison, left halfword in bit 25 (R207). -/
theorem test_cmp_lt_ph : ∃ t, exec (.cmpLtPh 1 2) (given 0x12348000 0xFFFFFFFF12347FFF 0 0 0) = .next t ∧
    t.dspControl.getLsbD 25 = false ∧ t.dspControl.getLsbD 24 = true := by
  refine ⟨_, rfl, (getLsbD_setBits _ 24 _ 25 (by decide)).trans ?_, (getLsbD_setBits _ 24 _ 24 (by decide)).trans ?_⟩
  · rw [if_pos (by decide), BitVec.getLsbD_append, if_pos (by decide)]; decide
  · rw [if_pos (by decide), BitVec.getLsbD_append, if_pos (by decide)]; decide

/-- V42, CMPGDU.LE.QB: the four bits in `rd` as well (R217). -/
theorem test_cmpgdu_le_qb :
    (gprAfter 3 (.cmpgduLeQb 3 1 2) (given 0x01FF8000 0x02FE8001 0 0 0)).map (·.1) = some 0xB := by decide

/-- The memory of section V45 of the vectors from 0x1000 on, GPR[4] and GPR[6] the base and the index. -/
def loads (be : Bool) (base index : DWord) : State :=
  let s : State := { ready with params := { defaultParams with bigEndian := be } }
  let m : Memory := [(0x1000, 0x80), (0x1001, 0x81), (0x1002, 0x34), (0x1003, 0x82), (0x1004, 0xF0), (0x1005, 0xDE),
    (0x1006, 0xBC), (0x1007, 0x9A)]
  ({ s with mem := m }.setGpr 4 base).setGpr 6 index

/-- V45.3, V45.5, V45.7, V45.12: both byte orders, both extensions, the 32-bit address sum. -/
theorem test_loads :
    (gprAfter 3 (.lbux 3 6 4) (loads true 0xFFFFFFFF 0x1004)).map (·.1) = some 0x82 ∧
    (gprAfter 3 (.lhx 3 6 4) (loads false 0x1000 0)).map (·.1) = some 0xFFFFFFFFFFFF8180 ∧
    (gprAfter 3 (.lhx 3 6 4) (loads true 0x1000 0)).map (·.1) = some 0xFFFFFFFFFFFF8081 ∧
    (gprAfter 3 (.lwx 3 6 4) (loads false 0x1000 4)).map (·.1) = some 0xFFFFFFFF9ABCDEF0 ∧
    (gprAfter 3 (.lwx 3 6 4) (loads true 0x1000 4)).map (·.1) = some 0xFFFFFFFFF0DEBC9A ∧
    (gprAfter 3 (.ldx 3 6 4) (loads false 0x1000 0)).map (·.1) = some 0x9ABCDEF082348180 ∧
    (gprAfter 3 (.ldx 3 6 4) (loads true 0x1000 0)).map (·.1) = some 0x80813482F0DEBC9A := by decide

/-- V45.9, T22: the trap record of a misaligned load, a destination of register 0 included. -/
theorem test_misaligned_load_traps :
    exec (.lwx 3 6 4) (loads false 0x1000 6) = .fault (.trap
      ⟨.addressError, 0x1006, 0xFFFFFFFFBFC00000, false, 0xFFFFFFFFBFC00000⟩) ∧
    exec (.lhx 0 6 4) (loads false 0x1000 1) = .fault (.trap
      ⟨.addressError, 0x1001, 0xFFFFFFFFBFC00000, false, 0xFFFFFFFFBFC00000⟩) := ⟨rfl, rfl⟩

/-- `DSPControl` and pc as given. -/
def branchState (pc : Addr) (control : Word) : State := { ready with pc := pc, dspControl := control }

/-- pc, slot and latch after the instruction. -/
def pcAfter (i : Instr) (s : State) : Option (Addr × Slot × Option Addr) :=
  match exec i s with
  | .next t => some (t.pc, t.slot, t.delayed)
  | _ => none

/-- B1, B2, B5, B7, B10, B11 of the vectors. -/
theorem test_branches :
    pcAfter (.bposge32 4) (branchState 0x1000 32) = some (0x1004, .delay, some 0x1014) ∧
    pcAfter (.bposge32 4) (branchState 0x1000 31) = some (0x1004, .delay, none) ∧
    pcAfter (.bposge32 4) (branchState 0x1000 64) = some (0x1004, .delay, some 0x1014) ∧
    pcAfter (.bposge32 0x8000) (branchState 0x1000 32) = some (0x1004, .delay, some 0xFFFFFFFFFFFE1004) ∧
    pcAfter (.bposge32c 4) (branchState 0x1000 32) = some (0x1014, .none, none) ∧
    pcAfter (.bposge32c 4) (branchState 0x1000 31) = some (0x1004, .forbidden, none) := by decide

/-- The slot instruction goes on at the delayed target (R24). -/
theorem test_delay_slot_goes_to_target :
    pcAfter (.adduQb 3 1 2) { ready with pc := 0x1004, slot := .delay, delayed := some 0x1014 } =
      some (0x1014, .none, none) := by decide

/-- K1, K3, K5: a branch in a slot. -/
theorem test_branch_in_a_slot :
    exec (.bposge32c 1) { ready with pc := 0x1004, slot := .delay } = .fault (.unpredOp .ctiInDelaySlot) ∧
    exec (.bposge32c 1) { ready with
      pc := 0x1004, slot := .delay, params := { defaultParams with baseRelease := .r6 } } =
      .fault (.trap ⟨.reservedInstruction, 0x04180001, 0x1004, true, 0x1000⟩) ∧
    exec (.bposge32 1) { ready with pc := 0x1004, slot := .forbidden } =
      .fault (.trap ⟨.reservedInstruction, 0x041C0001, 0x1004, true, 0x1000⟩) := ⟨rfl, rfl, rfl⟩

/-- T1, T6, T10: the revision, the enable, the release. -/
theorem test_dsp_check_traps :
    exec (.adduPh 3 1 2) { ready with pc := 0x1000, params := { defaultParams with dspRev := .r1 } } =
      .fault (.trap ⟨.reservedInstruction, 0x7C221A10, 0x1000, false, 0x1000⟩) ∧
    exec (.adduQb 3 1 2) { State.reset with pc := 0x1000 } =
      .fault (.trap ⟨.dspDisabled, 0x7C221810, 0x1000, false, 0x1000⟩) ∧
    exec (.mfhi 3 1) { ready with pc := 0x1000, params := { defaultParams with baseRelease := .r6 } } =
      .fault (.trap ⟨.reservedInstruction, 0x00201810, 0x1000, false, 0x1000⟩) := ⟨rfl, rfl, rfl⟩

/-- T14, T28: a word of no row, a misaligned pc. -/
theorem test_fetch_and_decode_traps :
    step ({ ready with pc := 0x1000 }.withFetchWord 32 0x7C0007FF) =
      .fault (.trap ⟨.reservedInstruction, 0x7C0007FF, 0x1000, false, 0x1000⟩) ∧
    step { ready with pc := 0x1002 } = .fault (.trap ⟨.addressError, 0x1002, 0x1002, false, 0x1002⟩) := ⟨rfl, rfl⟩

/-- Examples of R296 and R298: all 64 bits move; R30: the marks of `ac0`. -/
theorem test_moves :
    gprAfter 3 (.mfhi 3 1) (given 0 0 0x0123456789ABCDEF 7 0) = some (0x0123456789ABCDEF, 0) ∧
    gprAfter 3 (.mflo 3 1) (given 0 0 0x0123456789ABCDEF 7 0) = some (7, 0) ∧
    accAfter (.mthi 1 1) (given 0x0123456789ABCDEF 0 5 7 0) = some (0x0123456789ABCDEF, 7, 0) ∧
    accAfter (.mtlo 1 1) (given 0xFFFFFFFF80000000 0 5 7 0) = some (5, 0xFFFFFFFF80000000, 0) := by decide

/-- MULT on `ac0` marks it unread, MFLO on `ac0` clears the mark (R30). -/
theorem test_unread_mark :
    (match exec (.mult 0 1 2) ready with | .next t => t.ac0Unread | _ => false) = true ∧
    (match exec (.mflo 3 0) { ready with ac0Unread := true } with | .next t => t.ac0Unread | _ => true) = false := by
  decide

/-- What the host asks: a word placed at the reset vector is the first instruction to run. -/
theorem test_first_instruction : (match step (State.reset.withFetchWord 32 0x7C221810) with
    | .next t => t.pc.toNat | _ => 0) = 0xFFFFFFFFBFC00004 := by decide

/-! ### States and operands that meet the hypotheses of the statements -/

/-- Every instruction is available in the machine with the Module enabled: a witness for every result statement. -/
theorem available_ready (i : Instr) : Available i ready :=
  ⟨by cases i.isaTag <;> decide, fun h => absurd h.1 (by decide), rfl⟩

theorem test_witness_DecodeInvertsEncode : (Instr.extp 7 2 31).wellFormed = true := rfl

theorem test_witness_EncodeInvertsDecode : decodeWord 0x7C221810#32 = .ok (.adduQb 3 1 2) := by decide

theorem test_witness_DecoderFollowsTheOpcodeTable :
    decodeWord 0x7C221810#32 = .ok (.adduQb 3 1 2) ∧
    ∃ r ∈ opcodeRows, 0x7C221810#32 &&& r.mask = r.pattern ∧ r.mnemonic = "ADDU.QB" :=
  ⟨by decide, _, List.mem_of_getElem? (i := 0) rfl, by decide, rfl⟩

/-- The reset machine about to run ADDU.QB $3, $1, $2. -/
def loaded : State := State.reset.withFetchWord 32 0x7C221810

theorem test_witness_StepRunsTheDecodedInstruction : loaded.pc.toNat % 4 = 0 ∧
    decodeBytes loaded.params.bigEndian [loaded.readByte loaded.pc, loaded.readByte (loaded.pc + 1#64),
      loaded.readByte (loaded.pc + 2#64), loaded.readByte (loaded.pc + 3#64)] = .ok (.adduQb 3 1 2, []) := by
  decide

theorem test_witness_FetchAndDecodeTraps : ({ ready with pc := 0x1001 } : State).pc.toNat % 4 ≠ 0 ∧
    ready.pc.toNat % 4 = 0 ∧ decodeWord (ready.read32 ready.pc) = .error .unassigned := by decide

theorem test_witness_StepKeepsTheInvariant : loaded.Inv ∧ ∃ t, step loaded = .next t :=
  ⟨⟨by decide, fun _ h => (by cases h), fun h => absurd rfl h, by decide, by decide, by decide⟩, _, rfl⟩

theorem test_witness_ResetHoldsTheInvariant :
    (0xFFFFFFFFFFFFFFFC#64 : Addr).toNat % 4 = 0 ∧ Memory.wf [(0, 1#8), (2 ^ 64 - 1, 0xFF#8)] = true := by decide

theorem test_witness_PlacedWordIsFetched : ready.mem.wf = true ∧ ready.pc.toNat % 4 = 0 ∧
    decodeWord 0x7C221810#32 = .ok (.adduQb 3 1 2) ∧ (0 < ready.pc.toNat ∨ ready.pc.toNat + 4 ≤ 0) := by decide

/-- An ordinary instruction, a branch and a load that meet every condition, and next states they answer. -/
theorem test_witness_InstructionsCompleteExactlyWhenAllowed :
    (Available (.adduQb 3 1 2) ready ∧ ∃ t, exec (.adduQb 3 1 2) ready = .next t) ∧
    (Available (.bposge32 4) ready ∧ ready.slot = .none ∧ ∃ t, exec (.bposge32 4) ready = .next t) ∧
    (Available (.ldx 3 6 4) (loads true 0x1000 0) ∧
      loadAccess (loads true 0x1000 0) (.ldx 3 6 4) = some (0x1000, 8) ∧ (0x1000#64 : Addr).toNat % 8 = 0 ∧
      memFault (loads true 0x1000 0).params.memFault 0x1000 8 = none ∧
      ∃ t, exec (.ldx 3 6 4) (loads true 0x1000 0) = .next t) :=
  ⟨⟨available_ready _, _, rfl⟩, ⟨available_ready _, rfl, _, rfl⟩, ⟨by decide, by decide, rfl⟩, by decide, by decide,
    rfl, _, rfl⟩

/-- The machine with other parameters. -/
def configured (rev : DspRev) (release : BaseRelease) (enabled : Bool) : State :=
  { ready with params := { defaultParams with dspRev := rev, baseRelease := release }, dspEnabled := enabled }

theorem test_witness_DspCheckTraps :
    ((configured .r2 .pre6 true).params.dspRev.number < (Instr.bposge32c 4).isaTag.rev ∧
      (configured .r2 .pre6 true).slot = .none) ∧
    ((Instr.madd 0 1 2).isaTag.rev ≤ (configured .r1 .r6 false).params.dspRev.number ∧
      (configured .r1 .r6 false).params.baseRelease = .r6 ∧ (Instr.madd 0 1 2).isaTag = .preR6) ∧
    ((Instr.adduPh 3 1 2).isaTag.rev ≤ (configured .r2 .r6 false).params.dspRev.number ∧
      ¬ ((configured .r2 .r6 false).params.baseRelease = .r6 ∧ (Instr.adduPh 3 1 2).isaTag = .preR6) ∧
      (configured .r2 .r6 false).dspEnabled = false) := by decide

theorem test_witness_BranchInTheDelaySlot :
    isBranch (.bposge32c 1) = true ∧ ({ ready with slot := .delay } : State).slot = .delay ∧
    (configured .r3 .pre6 true).params.baseRelease = .pre6 ∧ (configured .r3 .r6 true).params.baseRelease = .r6 := by
  decide

theorem test_witness_BranchInTheForbiddenSlot :
    isBranch (.bposge32 1) = true ∧ ({ ready with slot := .forbidden } : State).slot = .forbidden ∧
    (∃ t, exec (.bposge32c 4) (branchState 0x1000 31) = .next t) ∧
    (∃ t, exec (.bposge32c 4) (branchState 0x1000 32) = .next t) :=
  ⟨rfl, rfl, ⟨_, rfl⟩, ⟨_, rfl⟩⟩

/-- A machine whose oracle faults word loads at 0x1004. -/
def faulting : State :=
  { loads false 0x1000 4 with params := { defaultParams with memFault := [⟨0x1004, 0x1004, 4, .busError⟩] } }

theorem test_witness_LoadTraps :
    (Available (.lwx 3 6 4) (loads false 0x1000 6) ∧
      loadAccess (loads false 0x1000 6) (.lwx 3 6 4) = some (0x1006, 4) ∧ (0x1006#64 : Addr).toNat % 4 ≠ 0) ∧
    (Available (.lwx 3 6 4) faulting ∧ loadAccess faulting (.lwx 3 6 4) = some (0x1004, 4) ∧
      (0x1004#64 : Addr).toNat % 4 = 0 ∧ memFault faulting.params.memFault 0x1004 4 = some .busError) :=
  ⟨⟨⟨by decide, by decide, rfl⟩, by decide, by decide⟩, ⟨by decide, by decide, rfl⟩, by decide, by decide, by decide⟩

theorem test_witness_TrapRecord :
    (∃ f, step State.reset = .fault (.trap f)) ∧ (∃ f, exec (.adduQb 3 1 2) State.reset = .fault (.trap f)) ∧
    (∃ f, exec (.lwx 3 6 4) faulting = .fault (.trap f) ∧ f.cause = .busError) :=
  ⟨⟨_, rfl⟩, ⟨_, rfl⟩, ⟨_, rfl, rfl⟩⟩

theorem test_witness_OnlyTheNamedStops : ∃ f, exec (.lwx 3 6 4) faulting = .fault (.trap f) ∧
    f.cause ≠ .reservedInstruction ∧ f.cause ≠ .dspDisabled :=
  ⟨_, rfl, by decide, by decide⟩

theorem test_witness_GeneralRegisterFrame : ∃ t, exec (.modsub 3 1 2) ready = .next t := ⟨_, rfl⟩

theorem test_witness_AccumulatorFrame : ∃ t, exec (.mulPh 3 1 2) ready = .next t := ⟨_, rfl⟩

theorem test_witness_ControlFrame : ∃ t, exec (.wrdsp 1 0x3F) ready = .next t := ⟨_, rfl⟩

theorem test_witness_MemoryAndEnvironmentFrame : ∃ t, exec (.ldx 3 6 4) (loads true 0x1000 0) = .next t := ⟨_, rfl⟩

/-- A flag set before, and one raised by the instruction. -/
theorem test_witness_OuflagBitsAreSticky :
    (∀ rs mask, Instr.addqPh 3 1 2 ≠ .wrdsp rs mask) ∧
    ∃ t, exec (.addqPh 3 1 2) (given 0x7FFF 1 0 0 0x00010000) = .next t ∧
      (given 0x7FFF 1 0 0 0x00010000).dspControl.getLsbD 16 = true ∧
      (given 0x7FFF 1 0 0 0x00010000).dspControl.getLsbD 20 = false ∧ t.dspControl.getLsbD 20 = true :=
  ⟨fun _ _ h => (by cases h), _, rfl, by decide, by decide, by decide⟩

theorem test_witness_NextPcAndSlot : isBranch (.adduQb 3 1 2) = false ∧
    ∃ t, exec (.adduQb 3 1 2) { ready with slot := .delay, delayed := some 0x1014 } = .next t := ⟨rfl, _, rfl⟩

theorem test_witness_UnreadMarkOfAc0 : ∃ t, exec (.multu 0 1 2) ready = .next t := ⟨_, rfl⟩

theorem test_witness_RestartAfterASlotTrap : isBranch (.bposge32 4) = true ∧ isBranch (.bposge32c 4) = true ∧
    (branchState 0x1000 0).delayed = none ∧
    (∃ t, exec (.bposge32 4) (branchState 0x1000 0) = .next t ∧ t.slot ≠ .none) ∧
    (∃ t, exec (.bposge32c 4) (branchState 0x1000 0) = .next t ∧ t.slot ≠ .none) :=
  ⟨rfl, rfl, rfl, ⟨_, rfl, by decide⟩, ⟨_, rfl, by decide⟩⟩

theorem test_witness_RegisterWritesReadBack : (0 < 32 ∧ 31 < 32) ∧ (16 ≤ 16 ∧ 16 < 24) ∧ (16 ≤ 23 ∧ 23 < 24) ∧
    (24 ≤ 24 ∧ 24 ≤ 31) := by decide

theorem test_witness_MemoryIsItsContents :
    Memory.wf [(3, 7#8)] = true ∧ Memory.wf (Memory.write [] 3 7#8) = true ∧
    (∀ a, Memory.read [(3, 7#8)] a = Memory.read (Memory.write [] 3 7#8) a) ∧ (0 : Nat) ≠ 2 ^ 64 - 1 :=
  ⟨by decide, by decide, fun _ => rfl, by decide⟩

theorem test_witness_AbsoluteValueResults :
    Available (.absqSPh 3 2) ready ∧ Available (.absqSQb 3 2) ready ∧ Available (.absqSW 3 2) ready :=
  ⟨available_ready _, available_ready _, available_ready _⟩

theorem test_witness_SignedAddSubtractResults :
    Available (.addqPh 3 1 2) ready ∧ Available (.addqSPh 3 1 2) ready ∧ Available (.subqPh 3 1 2) ready ∧
    Available (.subqSPh 3 1 2) ready ∧ Available (.addqSW 3 1 2) ready ∧ Available (.subqSW 3 1 2) ready :=
  ⟨available_ready _, available_ready _, available_ready _, available_ready _, available_ready _, available_ready
    _⟩

theorem test_witness_UnsignedAddSubtractResults :
    Available (.adduQb 3 1 2) ready ∧ Available (.adduSQb 3 1 2) ready ∧ Available (.subuQb 3 1 2) ready ∧
    Available (.subuSQb 3 1 2) ready ∧ Available (.adduPh 3 1 2) ready ∧ Available (.adduSPh 3 1 2) ready ∧
    Available (.subuPh 3 1 2) ready ∧ Available (.subuSPh 3 1 2) ready :=
  ⟨available_ready _, available_ready _, available_ready _, available_ready _, available_ready _, available_ready
    _, available_ready _, available_ready _⟩

theorem test_witness_HalvingResults :
    Available (.addqhPh 3 1 2) ready ∧ Available (.addqhRPh 3 1 2) ready ∧ Available (.subqhPh 3 1 2) ready ∧
    Available (.subqhRPh 3 1 2) ready ∧ Available (.addqhW 3 1 2) ready ∧ Available (.addqhRW 3 1 2) ready ∧
    Available (.subqhW 3 1 2) ready ∧ Available (.subqhRW 3 1 2) ready ∧ Available (.adduhQb 3 1 2) ready ∧
    Available (.adduhRQb 3 1 2) ready ∧ Available (.subuhQb 3 1 2) ready ∧ Available (.subuhRQb 3 1 2) ready :=
  ⟨available_ready _, available_ready _, available_ready _, available_ready _, available_ready _, available_ready
    _, available_ready _, available_ready _, available_ready _, available_ready _, available_ready _,
    available_ready _⟩

theorem test_witness_CarryAndReductionResults :
    Available (.addsc 3 1 2) ready ∧ Available (.addwc 3 1 2) ready ∧ Available (.modsub 3 1 2) ready ∧
    Available (.radduWQb 3 1) ready :=
  ⟨available_ready _, available_ready _, available_ready _, available_ready _⟩

theorem test_witness_ExpandResults :
    Available (.bitrev 3 2) ready ∧ Available (.packrlPh 3 1 2) ready ∧ Available (.preceqWPhl 3 2) ready ∧
    Available (.preceqWPhr 3 2) ready ∧ Available (.precequPhQbl 3 2) ready ∧ Available (.precequPhQbr 3 2) ready ∧
    Available (.precequPhQbla 3 2) ready ∧ Available (.precequPhQbra 3 2) ready ∧
    Available (.preceuPhQbl 3 2) ready ∧ Available (.preceuPhQbr 3 2) ready ∧ Available (.preceuPhQbla 3 2) ready ∧
    Available (.preceuPhQbra 3 2) ready :=
  ⟨available_ready _, available_ready _, available_ready _, available_ready _, available_ready _, available_ready
    _, available_ready _, available_ready _, available_ready _, available_ready _, available_ready _,
    available_ready _⟩

theorem test_witness_NarrowAndReplicateResults :
    Available (.precrQbPh 3 1 2) ready ∧ Available (.precrqQbPh 3 1 2) ready ∧ Available (.precrqPhW 3 1 2) ready ∧
    Available (.replvPh 3 2) ready ∧ Available (.replvQb 3 2) ready ∧ Available (.replPh 3 0x3FF#10) ready ∧
    Available (.replQb 3 0xFF#8) ready :=
  ⟨available_ready _, available_ready _, available_ready _, available_ready _, available_ready _, available_ready
    _, available_ready _⟩

theorem test_witness_CompareResults :
    Available (.cmpEqPh 1 2) ready ∧ Available (.cmpLtPh 1 2) ready ∧ Available (.cmpLePh 1 2) ready ∧
    Available (.cmpuEqQb 1 2) ready ∧ Available (.cmpuLtQb 1 2) ready ∧ Available (.cmpuLeQb 1 2) ready ∧
    Available (.cmpguEqQb 3 1 2) ready ∧ Available (.cmpguLtQb 3 1 2) ready ∧ Available (.cmpguLeQb 3 1 2) ready ∧
    Available (.cmpgduEqQb 3 1 2) ready ∧ Available (.cmpgduLtQb 3 1 2) ready ∧
    Available (.cmpgduLeQb 3 1 2) ready :=
  ⟨available_ready _, available_ready _, available_ready _, available_ready _, available_ready _, available_ready
    _, available_ready _, available_ready _, available_ready _, available_ready _, available_ready _,
    available_ready _⟩

theorem test_witness_PickResults :
    Available (.pickPh 3 1 2) ready ∧ Available (.pickQb 3 1 2) ready :=
  ⟨available_ready _, available_ready _⟩

theorem test_witness_IntegerDotProductResults :
    Available (.dpaWPh 1 1 2) ready ∧ Available (.dpsWPh 1 1 2) ready ∧ Available (.mulsaWPh 1 1 2) ready ∧
    Available (.dpaxWPh 1 1 2) ready ∧ Available (.dpsxWPh 1 1 2) ready ∧ Available (.dpauHQbl 1 1 2) ready ∧
    Available (.dpauHQbr 1 1 2) ready ∧ Available (.dpsuHQbl 1 1 2) ready ∧ Available (.dpsuHQbr 1 1 2) ready :=
  ⟨available_ready _, available_ready _, available_ready _, available_ready _, available_ready _, available_ready
    _, available_ready _, available_ready _, available_ready _⟩

theorem test_witness_FractionalDotProductResults :
    Available (.dpaqSWPh 1 1 2) ready ∧ Available (.dpsqSWPh 1 1 2) ready ∧ Available (.dpaqxSWPh 1 1 2) ready ∧
    Available (.dpsqxSWPh 1 1 2) ready ∧ Available (.mulsaqSWPh 1 1 2) ready ∧ Available (.maqSWPhl 1 1 2) ready ∧
    Available (.maqSWPhr 1 1 2) ready :=
  ⟨available_ready _, available_ready _, available_ready _, available_ready _, available_ready _, available_ready
    _, available_ready _⟩

theorem test_witness_SaturatingAccumulateResults :
    Available (.dpaqxSaWPh 1 1 2) ready ∧ Available (.dpsqxSaWPh 1 1 2) ready ∧ Available (.dpaqSaLW 1 1 2) ready ∧
    Available (.dpsqSaLW 1 1 2) ready ∧ Available (.maqSaWPhl 1 1 2) ready ∧ Available (.maqSaWPhr 1 1 2) ready :=
  ⟨available_ready _, available_ready _, available_ready _, available_ready _, available_ready _, available_ready
    _⟩

theorem test_witness_ControlRegisterAccess :
    Available (.rddsp 3 0x3F#10) ready ∧ Available (.wrdsp 1 0x3F#10) ready :=
  ⟨available_ready _, available_ready _⟩

theorem test_witness_MultiplyToRegisterResults :
    Available (.muleqSWPhl 3 1 2) ready ∧ Available (.muleqSWPhr 3 1 2) ready ∧
    Available (.muleuSPhQbl 3 1 2) ready ∧ Available (.muleuSPhQbr 3 1 2) ready ∧
    Available (.mulqRsPh 3 1 2) ready ∧ Available (.mulqSPh 3 1 2) ready ∧ Available (.mulPh 3 1 2) ready ∧
    Available (.mulSPh 3 1 2) ready ∧ Available (.mulqSW 3 1 2) ready ∧ Available (.mulqRsW 3 1 2) ready :=
  ⟨available_ready _, available_ready _, available_ready _, available_ready _, available_ready _, available_ready
    _, available_ready _, available_ready _, available_ready _, available_ready _⟩

/-- The amounts at the ends of their ranges, both kinds of BALIGN. -/
theorem test_witness_SpliceResults : (31 < 32 ∧ Available (.append 2 1 31) ready) ∧
    (0 < 32 ∧ Available (.prepend 2 1 0) ready) ∧ (3 = 1 ∨ 3 = 3) ∧ Available (.balign 2 1 3) ready ∧
    (2 = 0 ∨ 2 = 2) ∧ Available (.balign 2 1 2) ready :=
  ⟨⟨by decide, available_ready _⟩, ⟨by decide, available_ready _⟩, .inr rfl, available_ready _, .inr rfl,
    available_ready _⟩

/-- A field that ends at bit 31, and a size of 0. -/
theorem test_witness_InsertResults :
    (Available (.insv 2 1) (given 0xAB 0 0 0 0x418) ∧ 24 = (given 0xAB 0 0 0 0x418).dspControl.toNat % 2 ^ 6 ∧
      8 = (given 0xAB 0 0 0 0x418).dspControl.toNat / 2 ^ 7 % 2 ^ 6 ∧ 24 + 8 ≤ 32 ∧
      (given 0xAB 0 0 0 0x418).gpr 1 = BitVec.ofInt 64 ((given 0xAB 0 0 0 0x418).word 1).toInt ∧
      (given 0xAB 0 0 0 0x418).gpr 2 = BitVec.ofInt 64 ((given 0xAB 0 0 0 0x418).word 2).toInt) ∧
    (Available (.insv 2 1) ready ∧ 0 = ready.dspControl.toNat / 2 ^ 7 % 2 ^ 6) :=
  ⟨⟨⟨by decide, by decide, rfl⟩, by decide, by decide, by decide, by decide, by decide⟩, available_ready _, by decide⟩

/-- `pos` at 31 and 32, in no slot. -/
theorem test_witness_BranchResults :
    (branchState 0x1000 32).slot = .none ∧ Available (.bposge32 4) (branchState 0x1000 32) ∧
    Available (.bposge32c 4) (branchState 0x1000 31) := ⟨rfl, ⟨by decide, by decide, rfl⟩, by decide, by decide, rfl⟩

/-- A valid extraction with `size` equal to the start, and an invalid one. -/
theorem test_witness_ExtractFieldResults :
    31 = (given 31 0 0 0 31).dspControl.toNat % 2 ^ 6 ∧ 31 < 32 ∧ 31 = ((given 31 0 0 0 31).gpr 1).toNat % 2 ^ 5 ∧
    Available (.extp 3 1 31) (given 31 0 0 0 31) ∧ Available (.extpdpv 3 1 1) (given 31 0 0 0 31) ∧
    0 = ready.dspControl.toNat % 2 ^ 6 ∧ (0 < 1 ∧ 1 < 32) ∧ Available (.extpdp 3 1 1) ready :=
  ⟨by decide, by decide, by decide, ⟨by decide, by decide, rfl⟩, ⟨by decide, by decide, rfl⟩, by decide, by decide,
    available_ready _⟩

theorem test_witness_ExtractWordResults : (31 < 32 ∧ Available (.extrRsW 3 1 31) ready) ∧
    (31 = ((given 0x3F 0 0 0 0).gpr 1).toNat % 2 ^ 5 ∧ Available (.extrvW 3 1 1) (given 0x3F 0 0 0 0)) :=
  ⟨⟨by decide, available_ready _⟩, by decide, by decide, by decide, rfl⟩

/-- `ac0` read and unread, another accumulator, and `pos` at 32 and 33. -/
theorem test_witness_HiLoMoveResults :
    (Available (.mthi 1 0) ready ∧ ¬ ((0 : Acc) = 0 ∧ ready.ac0Unread = true)) ∧
    (Available (.mtlo 1 0) { ready with ac0Unread := true } ∧
      ((0 : Acc) = 0 ∧ ({ ready with ac0Unread := true } : State).ac0Unread = true)) ∧
    (Available (.mfhi 3 3) ready ∧ Available (.mflo 3 0) ready) ∧
    (Available (.mthlip 1 1) (given 0 0 0 0 32) ∧ (given 0 0 0 0 32).dspControl.toNat % 2 ^ 7 ≤ 32) ∧
    (Available (.mthlip 1 1) (given 0 0 0 0 33) ∧ 32 < (given 0 0 0 0 33).dspControl.toNat % 2 ^ 7) :=
  ⟨⟨available_ready _, by decide⟩, ⟨⟨by decide, by decide, rfl⟩, rfl, rfl⟩, ⟨available_ready _, available_ready _⟩,
    ⟨⟨by decide, by decide, rfl⟩, by decide⟩, ⟨by decide, by decide, rfl⟩, by decide⟩

/-- Two words, and a register that holds no sign-extended word. -/
theorem test_witness_BaseMultiplyResults :
    (Available (.mult 0 1 2) (given 3 0xFFFFFFFFFFFFFFFF 0 0 0) ∧
      (given 3 0xFFFFFFFFFFFFFFFF 0 0 0).gpr 2 =
        BitVec.ofInt 64 ((given 3 0xFFFFFFFFFFFFFFFF 0 0 0).word 2).toInt ∧
      (given 3 0xFFFFFFFFFFFFFFFF 0 0 0).gpr 1 =
        BitVec.ofInt 64 ((given 3 0xFFFFFFFFFFFFFFFF 0 0 0).word 1).toInt) ∧
    (Available (.madd 0 1 2) (given 3 0xFFFFFFFF 0 0 0) ∧
      (given 3 0xFFFFFFFF 0 0 0).gpr 2 ≠ BitVec.ofInt 64 ((given 3 0xFFFFFFFF 0 0 0).word 2).toInt) :=
  ⟨⟨⟨by decide, by decide, rfl⟩, by decide, by decide⟩, ⟨by decide, by decide, rfl⟩, by decide⟩

/-- Amounts of both signs. -/
theorem test_witness_AccumulatorShiftResults : Available (.shilo 1 31#6) ready ∧ Available (.shilo 1 0x20#6) ready ∧
    (0x20#6 = BitVec.ofNat 6 ((given 0x60 0 0 0 0).gpr 1).toNat ∧ Available (.shilov 1 1) (given 0x60 0 0 0 0)) :=
  ⟨available_ready _, available_ready _, by decide, by decide, by decide, rfl⟩

theorem test_witness_LoadResults :
    (0x1004#64 = BitVec.ofInt 64 (BitVec.ofNat 32 (((loads false 0x1000 4).gpr 6).toNat +
      ((loads false 0x1000 4).gpr 4).toNat)).toInt ∧ (0x1004#64 : Addr).toNat % 4 = 0 ∧
      memFault (loads false 0x1000 4).params.memFault 0x1004 4 = none ∧
      Available (.lwx 3 6 4) (loads false 0x1000 4)) ∧
    (0x1000#64 = BitVec.ofNat 64 (((loads true 0x1000 0).gpr 6).toNat + ((loads true 0x1000 0).gpr 4).toNat) ∧
      (0x1000#64 : Addr).toNat % 8 = 0 ∧ memFault (loads true 0x1000 0).params.memFault 0x1000 8 = none ∧
      Available (.ldx 3 6 4) (loads true 0x1000 0)) ∧
    (Available (.lbux 3 6 4) (loads false 0x1000 1) ∧ Available (.lhx 3 6 4) (loads false 0x1000 2) ∧
      (0x1002#64 : Addr).toNat % 2 = 0) :=
  ⟨⟨by decide, by decide, rfl, by decide, by decide, rfl⟩, ⟨by decide, by decide, rfl, by decide, by decide, rfl⟩,
    ⟨by decide, by decide, rfl⟩, ⟨by decide, by decide, rfl⟩, by decide⟩

/-- The largest amount of each width, and one from a register. -/
theorem test_witness_LeftShiftResults : (7 < 8 ∧ Available (.shllQb 3 2 7) ready) ∧
    (15 < 16 ∧ Available (.shllSPh 3 2 15) ready) ∧ (31 < 32 ∧ Available (.shllSW 3 2 31) ready) ∧
    (7 = ((given 0xF 0 0 0 0).gpr 1).toNat % 2 ^ 3 ∧ Available (.shllvQb 3 2 1) (given 0xF 0 0 0 0)) :=
  ⟨⟨by decide, available_ready _⟩, ⟨by decide, available_ready _⟩, ⟨by decide, available_ready _⟩, by decide,
    by decide, by decide, rfl⟩

theorem test_witness_RightShiftResults : (7 < 8 ∧ Available (.shraRQb 3 2 7) ready) ∧
    (15 < 16 ∧ Available (.shrlPh 3 2 15) ready) ∧ (31 < 32 ∧ Available (.shraRW 3 2 31) ready) ∧
    (31 = ((given 0xFF 0 0 0 0).gpr 1).toNat % 2 ^ 5 ∧ Available (.shravRW 3 2 1) (given 0xFF 0 0 0 0)) :=
  ⟨⟨by decide, available_ready _⟩, ⟨by decide, available_ready _⟩, ⟨by decide, available_ready _⟩, by decide,
    by decide, by decide, rfl⟩

theorem test_witness_PrecisionReductionResults : (31 < 32 ∧ Available (.precrSraRPhW 2 1 31) ready) ∧
    Available (.precrqRsPhW 3 1 2) ready ∧ Available (.precrquSQbPh 3 1 2) ready ∧
    (0 < 32 ∧ Available (.precrSraPhW 2 1 0) ready) :=
  ⟨⟨by decide, available_ready _⟩, available_ready _, available_ready _, by decide, available_ready _⟩

end Sys2Proof.Tests
end

section
/-!
The elements of a packed word as arithmetic on its value (`00_scope.md` R9): each half and byte by division and
remainder, each packed word as a sum of its elements by place, and the word packed from its own elements.
-/

namespace Sys2Proof.Machine

/-- A run of `n` bits of a word from bit `k` on, as a number. -/
theorem toNat_extractLsb'_eq_div_mod (w : Word) (k n : Nat) :
    (w.extractLsb' k n).toNat = w.toNat / 2 ^ k % 2 ^ n := by
  rw [BitVec.extractLsb'_toNat, Nat.shiftRight_eq_div_pow]

/-- The topmost run of bits needs no remainder. -/
theorem toNat_extractLsb'_top (w : Word) {k n : Nat} (h : 2 ^ k * 2 ^ n = 2 ^ 32) :
    (w.extractLsb' k n).toNat = w.toNat / 2 ^ k := by
  rw [toNat_extractLsb'_eq_div_mod, Nat.mod_eq_of_lt (Nat.div_lt_of_lt_mul (h ▸ w.isLt))]

/-- The lowest run of bits needs no division. -/
theorem toNat_extractLsb'_bottom (w : Word) (n : Nat) : (w.extractLsb' 0 n).toNat = w.toNat % 2 ^ n := by
  rw [toNat_extractLsb'_eq_div_mod, Nat.pow_zero, Nat.div_one]

theorem toNat_halfB (w : Word) : (halfB w).toNat = w.toNat / 2 ^ 16 := toNat_extractLsb'_top w rfl

theorem toNat_halfA (w : Word) : (halfA w).toNat = w.toNat % 2 ^ 16 := toNat_extractLsb'_bottom w 16

theorem toNat_byteD (w : Word) : (byteD w).toNat = w.toNat / 2 ^ 24 := toNat_extractLsb'_top w rfl

theorem toNat_byteC (w : Word) : (byteC w).toNat = w.toNat / 2 ^ 16 % 2 ^ 8 := toNat_extractLsb'_eq_div_mod w 16 8

theorem toNat_byteB (w : Word) : (byteB w).toNat = w.toNat / 2 ^ 8 % 2 ^ 8 := toNat_extractLsb'_eq_div_mod w 8 8

theorem toNat_byteA (w : Word) : (byteA w).toNat = w.toNat % 2 ^ 8 := toNat_extractLsb'_bottom w 8

theorem toNat_packPH (b a : Half) : (packPH b a).toNat = b.toNat * 2 ^ 16 + a.toNat := toNat_append_eq_add b a

theorem toNat_packQB (d c b a : Byte) : (packQB d c b a).toNat =
    ((d.toNat * 2 ^ 8 + c.toNat) * 2 ^ 8 + b.toNat) * 2 ^ 8 + a.toNat := by
  simp only [packQB, toNat_append_eq_add]

/-- A word is the word of its halves. -/
@[simp] theorem packPH_halves (w : Word) : packPH (halfB w) (halfA w) = w := by
  apply BitVec.eq_of_toNat_eq
  rw [toNat_packPH, toNat_halfB, toNat_halfA, Nat.div_add_mod']

/-- A word is the word of its bytes. -/
@[simp] theorem packQB_bytes (w : Word) : packQB (byteD w) (byteC w) (byteB w) (byteA w) = w := by
  apply BitVec.eq_of_toNat_eq
  rw [toNat_packQB, toNat_byteD, toNat_byteC, toNat_byteB, toNat_byteA]
  omega

/-- Settles O27: the value of each element, and the word packed from its elements, for every word. -/
theorem elementsOfAWord : Obligations.ElementsOfAWord := fun w =>
  ⟨toNat_halfB w, toNat_halfA w, toNat_byteD w, toNat_byteC w, toNat_byteB w, toNat_byteA w,
    packPH_halves w, packQB_bytes w⟩

end Sys2Proof.Machine
end

section
/-!
What a write leaves to be read (`10_state.md` R21, R27, R28, R31), in integers and bit by bit; and, for any bit
of `DSPControl`, which single write can have changed it.
-/

namespace Sys2Proof.Machine

/-! ### Accumulators -/

/-- The high word of a doubleword, as an integer. -/
theorem toInt_highWord (v : DWord) : (v.extractLsb' 32 32).toInt = v.toInt / 2 ^ 32 := by
  have hv := v.isLt
  have hn : (v.extractLsb' 32 32).toNat = v.toNat / 2 ^ 32 := by
    rw [BitVec.extractLsb'_toNat, Nat.shiftRight_eq_div_pow]
    omega
  rw [BitVec.toInt_eq_toNat_cond, BitVec.toInt_eq_toNat_cond, hn]
  split <;> split <;> omega

/-- Two words put together and cut apart again. -/
theorem append_highWord_lowWord (v : DWord) : v.extractLsb' 32 32 ++ v.extractLsb' 0 32 = v := by
  apply BitVec.eq_of_toNat_eq
  rw [toNat_append_eq_add]
  simp only [BitVec.extractLsb'_toNat, Nat.shiftRight_eq_div_pow]
  omega

/-- The low word of a sign-extended word is the word. -/
theorem lowWord_signExtend (w : Word) : ((w.signExtend 64).extractLsb' 0 32 : Word) = w := by
  apply BitVec.eq_of_getLsbD_eq
  intro k hk
  have hk' : k < 64 := by omega
  simp [BitVec.getElem_signExtend, hk, hk']

theorem State.acc_setAcc (s : State) (a b : Acc) (v : DWord) :
    (s.setAcc a v).acc b = if b = a then v else s.acc b := by
  unfold State.acc
  rw [State.hi_setAcc, State.lo_setAcc]
  split
  · rw [lowWord_signExtend, lowWord_signExtend, append_highWord_lowWord]
  · rfl

/-! ### Bits of `DSPControl` -/

/-- Replacing a field of one bit replaces that bit. -/
theorem getLsbD_setBits_single (d : Word) (lo : Nat) (v : BitVec 1) (k : Nat) (hk : k < 32) :
    (setBits d lo v).getLsbD k = if k = lo then v.getLsbD 0 else d.getLsbD k := by
  rw [getLsbD_setBits _ _ _ _ hk]
  by_cases h : k = lo
  · subst h
    rw [if_pos (by omega), if_pos rfl, Nat.sub_self]
  · rw [if_neg (by omega), if_neg h]

/-- Replacing a field keeps every bit outside it. -/
theorem getLsbD_setBits_cases (d : Word) (lo : Nat) {n : Nat} (v : BitVec n) (k : Nat) :
    (setBits d lo v).getLsbD k = d.getLsbD k ∨ (lo ≤ k ∧ k < lo + n) ∧ k < 32 := by
  by_cases hk : k < 32
  · by_cases hr : lo ≤ k ∧ k < lo + n
    · exact .inr ⟨hr, hk⟩
    · exact .inl (by rw [getLsbD_setBits _ _ _ _ hk, if_neg hr])
  · have hk := Nat.not_lt.mp hk
    exact .inl (by rw [BitVec.getLsbD_of_ge _ _ hk, BitVec.getLsbD_of_ge _ _ hk])

/-- Raising a flag keeps every other bit, and can only set its own. -/
theorem State.getLsbD_raiseOuflag_cases (s : State) (n : Nat) (c : Bool) (k : Nat) :
    (s.raiseOuflag n c).dspControl.getLsbD k = s.dspControl.getLsbD k ∨
      k = n ∧ (s.raiseOuflag n c).dspControl.getLsbD k = true := by
  by_cases hk : k < 32
  · rw [s.getLsbD_raiseOuflag n c k hk]
    by_cases hc : k = n ∧ c = true
    · exact .inr ⟨hc.1, if_pos hc⟩
    · exact .inl (if_neg hc)
  · have hk := Nat.not_lt.mp hk
    exact .inl (by rw [BitVec.getLsbD_of_ge _ _ hk, BitVec.getLsbD_of_ge _ _ hk])

/-- Settles O26: each clause is the law of one write; a sign-extended word is its integer in 64 bits. -/
theorem registerWritesReadBack : Obligations.RegisterWritesReadBack := by
  refine ⟨State.gpr_setGpr, State.gpr_setWord, fun s a b v => ⟨s.acc_setAcc a b v, ?_, s.lo_setAcc a b v⟩,
    fun s n hn => ⟨fun v => ?_, fun v => getLsbD_setBits_single _ 13 v n hn,
      fun v => getLsbD_setBits_single _ 14 v n hn, fun v => ?_, fun k c _ _ => s.getLsbD_raiseOuflag k c n hn⟩⟩
  · rw [State.hi_setAcc, ← toInt_highWord]
    rfl
  · rw [State.setPos_dspControl, getLsbD_setBits _ _ _ _ hn]
    simp
  · rw [State.setCcond_dspControl, getLsbD_setBits _ _ _ _ hn]
    simp [hn]

end Sys2Proof.Machine
end

section
/-!
What an instruction writes, said once. Every effect is a sequence of writes by the named operations of
`Machine/Ops.lean`, each to a place the tables of `Safety.lean` give to the instruction; `exec_of_not_branch` and
`exec_of_branch` say this of all 161 instructions, and the frames and the invariant follow by induction on the writes.
-/

namespace Sys2Proof.Machine

/-- `Writes i s m u`: named operations take `s` to `u` and write only where the tables let the instruction `i` write;
`m` is what `ac0_unread` was last set to, if anything. -/
inductive Writes (i : Instr) (s : State) : Option Bool → State → Prop
  | nothing : Writes i s none s
  | gpr {m : Option Bool} {u : State} {r : Reg} {v : DWord} (hr : r ∈ destGprs i) (h : Writes i s m u) :
      Writes i s m (u.setGpr r v)
  | hiLo {m : Option Bool} {u : State} {a : Acc} {x y : DWord} (ha : a ∈ writtenAccs i) (h : Writes i s m u) :
      Writes i s m (u.setHiLo a x y)
  | flag {m : Option Bool} {u : State} {n : Nat} {c : Bool} (hf : ouflagBit i = some n) (h16 : 16 ≤ n)
      (hn : n ∈ writtenControl i) (h : Writes i s m u) : Writes i s m (u.raiseOuflag n c)
  | pos {m : Option Bool} {u : State} {v : BitVec 7} (hn : ∀ n < 7, n ∈ writtenControl i) (h : Writes i s m u) :
      Writes i s m (u.setPos v)
  | carry {m : Option Bool} {u : State} {v : BitVec 1} (hn : 13 ∈ writtenControl i) (h : Writes i s m u) :
      Writes i s m (u.setCarry v)
  | efi {m : Option Bool} {u : State} {v : BitVec 1} (hn : 14 ∈ writtenControl i) (h : Writes i s m u) :
      Writes i s m (u.setEfi v)
  | ccond {m : Option Bool} {u : State} {v : BitVec 8} (hn : ∀ n, 24 ≤ n → n < 32 → n ∈ writtenControl i)
      (h : Writes i s m u) : Writes i s m (u.setCcond v)
  /-- WRDSP, the one instruction that writes `DSPControl` as a whole. -/
  | control {m : Option Bool} {u : State} {d : Word} {rs : Reg} {mask : BitVec 10} (hi : i = .wrdsp rs mask)
      (hd : ∀ n, n ∉ writtenControl i → d.getLsbD n = u.dspControl.getLsbD n) (h : Writes i s m u) :
      Writes i s m (u.setControl d)
  | read {m : Option Bool} {u : State} {a : Acc} (h : Writes i s m u) :
      Writes i s (if a = 0 then some false else m) (u.markAcRead a)
  | unread {m : Option Bool} {u : State} {a : Acc} (h : Writes i s m u) :
      Writes i s (if a = 0 then some true else m) (u.markAcUnread a)
  | drawn {m : Option Bool} {u : State} {k : Nat} (h : Writes i s m u) : Writes i s m (u.drawn k)

namespace Writes

variable {i : Instr} {s u : State} {m : Option Bool}

/-! ### The composite operations -/

theorem wordFlag {r : Reg} {n : Nat} {v : Flagged 32} (hr : r ∈ destGprs i) (hf : ouflagBit i = some n)
    (h16 : 16 ≤ n) (hn : n ∈ writtenControl i) (h : Writes i s m u) : Writes i s m (u.setWordFlag r n v) :=
  .gpr hr (.flag hf h16 hn h)

theorem accFlag {a : Acc} {v : Flagged 64} (ha : a ∈ writtenAccs i) (hf : ouflagBit i = some (accFlag a))
    (hn : accFlag a ∈ writtenControl i) (h : Writes i s m u) : Writes i s m (u.setAccFlag a v) :=
  .hiLo ha (.flag hf (accFlag_bounds a).1 hn h)

theorem gprAny {r : Reg} (hr : r ∈ destGprs i) (h : Writes i s m u) : Writes i s m (u.setGprAny r) :=
  .drawn (.gpr hr h)

theorem hiLoAny {a : Acc} (ha : a ∈ writtenAccs i) (h : Writes i s m u) : Writes i s m (u.setHiLoAny a) :=
  .drawn (.hiLo ha h)

theorem accWords {a : Acc} {p q : Reg} {v : DWord} (ha : a ∈ writtenAccs i) (h : Writes i s m u) :
    Writes i s m (u.setAccWords a p q v) := by
  rcases u.setAccWords_cases a p q v with ⟨-, e⟩ | ⟨-, e⟩ <;> rw [e]
  · exact .hiLo ha h
  · exact .hiLoAny ha h

/-- The end of an extract; `pos` is written only where the size to subtract is given. -/
theorem extract {r : Reg} {f : Option DWord} {g : DWord → DWord} {d : Option Nat} (hr : r ∈ destGprs i)
    (he : 14 ∈ writtenControl i) (hp : d ≠ none → ∀ n < 7, n ∈ writtenControl i) (h : Writes i s m u) :
    Writes i s m (u.extract r f g d) := by
  rcases u.extract_cases r f g d with ⟨_, _, -, hd, e⟩ | ⟨_, -, -, e⟩ | ⟨-, e⟩ <;> rw [e]
  · exact .gpr hr (.efi he (.pos (hp (by simp [hd])) h))
  · exact .gpr hr (.efi he h)
  · exact .gprAny hr (.efi he h)

end Writes

end Sys2Proof.Machine
end

section
/-!
The table of the writes: what each of the 161 instructions does to the state where it answers a next state.
-/

namespace Sys2Proof.Machine

/-- `t` is what writes of the instruction `i` make of `s`, moved on to the next instruction. -/
def WritesThenAdvance (i : Instr) (s t : State) : Prop := ∃ u, Writes i s (unreadAfter i) u ∧ t = u.advance

theorem WritesThenAdvance.of_ordinary {i : Instr} {s after t : State} {tag : IsaTag}
    (h : ordinary tag i s after = .next t) (hw : Writes i s (unreadAfter i) after) : WritesThenAdvance i s t :=
  have ⟨_, ht⟩ := ordinary_next h
  ⟨after, hw, ht⟩

theorem WritesThenAdvance.of_loading {i : Instr} {s after t : State} {tag : IsaTag} {a : Addr} {n : Nat}
    (h : loading tag i s a n after = .next t) (hw : Writes i s (unreadAfter i) after) : WritesThenAdvance i s t :=
  have ⟨_, _, ht⟩ := loading_next h
  ⟨after, hw, ht⟩

/-- The bits of `pos` and of `ccond`, as `writtenControl` lists them. -/
theorem mem_range_seven : ∀ n < 7, n ∈ List.range 7 := fun _ => List.mem_range.mpr

theorem mem_ccond_bits : ∀ n, 24 ≤ n → n < 32 → n ∈ List.range' 24 8 :=
  fun _ h1 h2 => List.mem_range'_1.mpr ⟨h1, h2⟩

/-- Bits of `w` where the mask has ones: where it has a zero, the bit of `d` stays. -/
theorem getLsbD_merge_of_unmasked {d w mask : Word} {n : Nat} (h : mask.getLsbD n = false) :
    ((d &&& ~~~mask) ||| (w &&& mask)).getLsbD n = d.getLsbD n := by
  by_cases hn : n < 32
  · rw [BitVec.getLsbD_eq_getElem hn] at h
    simp [hn, h]
  · simp [BitVec.getLsbD_of_ge _ n (Nat.not_lt.mp hn)]

/-- A bit WRDSP may not write is one its mask does not select. -/
theorem controlMask_of_not_mem {rs : Reg} {mask : BitVec 10} {n : Nat} (h : n ∉ writtenControl (.wrdsp rs mask)) :
    (controlMask mask).getLsbD n = false := by
  by_contra hb
  have hsel := Bool.eq_true_of_not_eq_false hb
  exact h (List.mem_filter.mpr ⟨List.mem_range.mpr (BitVec.lt_of_getLsbD hsel), hsel⟩)

/-- Everything an instruction that is no branch can do where it answers a next state. -/
theorem exec_of_not_branch {i : Instr} {s t : State} (hb : isBranch i = false) (h : exec i s = .next t) :
    WritesThenAdvance i s t := by
  cases i with
  | bposge32 | bposge32c => cases hb
  -- a general register
  | modsub | radduWQb | cmpguEqQb | cmpguLtQb | cmpguLeQb | bitrev | rddsp | pickQb | pickPh | precrqQbPh
  | precrQbPh | packrlPh | precrqPhW | precrSraPhW | precrSraRPhW | replQb | replvQb | precequPhQbl
  | precequPhQbr | precequPhQbla | precequPhQbra | replPh | replvPh | preceqWPhl | preceqWPhr | preceuPhQbl
  | preceuPhQbr | preceuPhQbla | preceuPhQbra | shrlQb | shrlvQb | shraQb | shraRQb | shravQb | shravRQb | shraPh
  | shravPh | shraRPh | shravRPh | shraRW | shravRW | shrlPh | shrlvPh | adduhQb | subuhQb | adduhRQb | subuhRQb
  | addqhPh | subqhPh | addqhRPh | subqhRPh | addqhW | subqhW | addqhRW | subqhRW | append | prepend =>
    exact .of_ordinary h (.gpr (.head _) .nothing)
  | lwx | lhx | lbux | ldx => exact .of_loading h (.gpr (.head _) .nothing)
  | balign =>
    refine .of_ordinary h ?_
    split
    · exact .gprAny (.head _) .nothing
    · exact .gpr (.head _) .nothing
  | insv =>
    refine .of_ordinary h ?_
    split
    · exact .gpr (.head _) .nothing
    · exact .gprAny (.head _) .nothing
  -- a general register and a flag, `c` or `ccond`
  | adduQb | subuQb | adduSQb | subuSQb | adduPh | subuPh | addqPh | subqPh | adduSPh | subuSPh | addqSPh | subqSPh
  | addwc | addqSW | subqSW | absqSQb | absqSPh | absqSW | precrquSQbPh | precrqRsPhW | shllQb | shllvQb | shllPh
  | shllvPh | shllSPh | shllvSPh | shllSW | shllvSW | extrW | extrvW | extrRW | extrvRW | extrRsW | extrvRsW
  | extrSH | extrvSH =>
    exact .of_ordinary h (.wordFlag (.head _) rfl (by decide) (.head _) .nothing)
  | muleuSPhQbl | muleuSPhQbr | muleqSWPhl | muleqSWPhr | mulqSPh | mulqRsPh | mulPh | mulSPh | mulqSW | mulqRsW =>
    exact .of_ordinary h (.hiLoAny (.head _) (.wordFlag (.head _) rfl (by decide) (.head _) .nothing))
  | addsc => exact .of_ordinary h (.gpr (.head _) (.carry (.head _) .nothing))
  | cmpEqPh | cmpLtPh | cmpLePh | cmpuEqQb | cmpuLtQb | cmpuLeQb =>
    exact .of_ordinary h (.drawn (.ccond mem_ccond_bits .nothing))
  | cmpgduEqQb | cmpgduLtQb | cmpgduLeQb =>
    exact .of_ordinary h (.gpr (.head _) (.drawn (.ccond mem_ccond_bits .nothing)))
  -- an accumulator
  | dpaWPh | dpsWPh | mulsaWPh | dpauHQbl | dpauHQbr | dpaxWPh | dpsxWPh | dpsuHQbl | dpsuHQbr | shilo | shilov =>
    exact .of_ordinary h (.hiLo (.head _) .nothing)
  | dpaqSWPh | dpsqSWPh | mulsaqSWPh | dpaqSaLW | dpsqSaLW | maqSaWPhl | maqSaWPhr | maqSWPhl | maqSWPhr | dpaqxSWPh
  | dpsqxSWPh | dpaqxSaWPh | dpsqxSaWPh =>
    exact .of_ordinary h (.accFlag (.head _) rfl (.head _) .nothing)
  | madd | maddu | msub | msubu => exact .of_ordinary h (.accWords (.head _) .nothing)
  | mult | multu => exact .of_ordinary h (.unread (.accWords (.head _) .nothing))
  | mthlip =>
    refine .of_ordinary h ?_
    split
    · exact .drawn (.pos mem_range_seven (.hiLo (.head _) .nothing))
    · exact .pos mem_range_seven (.hiLo (.head _) .nothing)
  -- the moves on an accumulator, which mark `ac0` as read
  | mfhi | mflo => exact .of_ordinary h (.gpr (.head _) (.read .nothing))
  | mthi | mtlo =>
    refine .of_ordinary h ?_
    split
    · exact .read (.drawn (.hiLo (.head _) .nothing))
    · exact .read (.hiLo (.head _) .nothing)
  -- the extracts with `EFI`, and WRDSP
  | extp | extpv => exact .of_ordinary h (.extract (.head _) (.head _) (fun hd => absurd rfl hd) .nothing)
  | extpdp | extpdpv =>
    exact .of_ordinary h (.extract (.head _) (.head _) (fun _ n hn => .tail _ (mem_range_seven n hn)) .nothing)
  | wrdsp rs mask =>
    exact .of_ordinary h (.control rfl (fun _ hn => getLsbD_merge_of_unmasked (controlMask_of_not_mem hn)) .nothing)

/-- Everything a branch can do where it answers a next state; none is in a slot. -/
theorem exec_of_branch {i : Instr} {s t : State} (hb : isBranch i = true) (h : exec i s = .next t) :
    s.slot = .none ∧ ((∃ offset, i = .bposge32 offset ∧ t = s.branchDelayed (s.branchTarget offset)) ∨
      ∃ offset, i = .bposge32c offset ∧ t = s.branchCompact (s.branchTarget offset)) := by
  cases i with
  | bposge32 offset =>
    obtain ⟨-, hs, ht⟩ := branching_next h
    exact ⟨hs, .inl ⟨offset, rfl, ht⟩⟩
  | bposge32c offset =>
    obtain ⟨-, hs, ht⟩ := branching_next h
    exact ⟨hs, .inr ⟨offset, rfl, ht⟩⟩
  | _ => cases hb

end Sys2Proof.Machine
end

section
/-!
What the writes keep, by induction on them, and the frames of the instructions (`10_state.md`).
-/

namespace Sys2Proof.Machine

/-! ### Bits of `DSPControl` -/

/-- No mask of WRDSP selects bit 15. -/
theorem controlMask_reserved (mask : BitVec 10) : (controlMask mask).getLsbD 15 = false := by
  simp only [controlMask, BitVec.getLsbD_or, apply_ite (BitVec.getLsbD · 15)]
  simp

/-- Every way in which an instruction may have turned the value `old` of bit `k` of `DSPControl` into `new`. -/
inductive BitChange (i : Instr) (k : Nat) (old new : Bool) : Prop
  | kept (h : new = old)
  | raised (hf : ouflagBit i = some k) (h16 : 16 ≤ k) (hk : k ∈ writtenControl i) (h : new = true)
  /-- A field other than `ouflag` was overwritten. -/
  | overwritten (hk : k ∈ writtenControl i) (h : k < 15 ∨ 24 ≤ k)
  | wrdsp {rs : Reg} {mask : BitVec 10} (hi : i = .wrdsp rs mask) (hk : k ∈ writtenControl i)

theorem BitChange.trans_eq {i : Instr} {k : Nat} {old new new' : Bool} (h : BitChange i k old new) (e : new' = new) :
    BitChange i k old new' := e ▸ h

namespace Writes

variable {i : Instr} {s u : State} {m : Option Bool}

theorem bitChange (h : Writes i s m u) (k : Nat) :
    BitChange i k (s.dspControl.getLsbD k) (u.dspControl.getLsbD k) := by
  induction h with
  | nothing => exact .kept rfl
  | gpr _ _ ih | hiLo _ _ ih | read _ ih | unread _ ih | drawn _ ih => exact ih
  | flag hf h16 hn _ ih =>
    rcases State.getLsbD_raiseOuflag_cases _ _ _ k with e | ⟨hk, e⟩
    · exact ih.trans_eq e
    · exact .raised (hk ▸ hf) (hk ▸ h16) (hk ▸ hn) e
  | pos hn _ ih =>
    rcases getLsbD_setBits_cases _ 0 _ k with e | ⟨hk, -⟩
    · exact ih.trans_eq e
    · exact .overwritten (hn k (by omega)) (by omega)
  | carry hn _ ih =>
    rcases getLsbD_setBits_cases _ 13 _ k with e | ⟨hk, -⟩
    · exact ih.trans_eq e
    · obtain rfl : k = 13 := by omega
      exact .overwritten hn (by omega)
  | efi hn _ ih =>
    rcases getLsbD_setBits_cases _ 14 _ k with e | ⟨hk, -⟩
    · exact ih.trans_eq e
    · obtain rfl : k = 14 := by omega
      exact .overwritten hn (by omega)
  | ccond hn _ ih =>
    rcases getLsbD_setBits_cases _ 24 _ k with e | ⟨hk, hk'⟩
    · exact ih.trans_eq e
    · exact .overwritten (hn k hk.1 hk') (.inr hk.1)
  | control hi hd _ ih =>
    by_cases hk : k ∈ writtenControl i
    · exact .wrdsp hi hk
    · exact ih.trans_eq (hd k hk)

theorem control_frame (h : Writes i s m u) : SameControlBut (writtenControl i) s u := by
  intro k hk
  cases h.bitChange k with
  | kept e => exact e
  | raised _ _ hk' _ | overwritten hk' _ | wrdsp _ hk' => exact absurd hk' hk

/-- The bit that R31 holds at 0 is written by nothing. -/
theorem reservedBit (h : Writes i s m u) : u.dspControl.getLsbD 15 = s.dspControl.getLsbD 15 := by
  cases h.bitChange 15 with
  | kept e => exact e
  | raised _ h16 _ _ => omega
  | overwritten _ hk => omega
  | wrdsp hi hk =>
    subst hi
    exact absurd ((controlMask_reserved _).symm.trans (List.mem_filter.mp hk).2) Bool.false_ne_true

/-- An `ouflag` bit is as it was, or it is the instruction's own and set. -/
theorem ouflag_frame (h : Writes i s m u) (hi : ∀ rs mask, i ≠ .wrdsp rs mask) {k : Nat} (h16 : 16 ≤ k)
    (h24 : k < 24) : u.dspControl.getLsbD k = s.dspControl.getLsbD k ∨
      ouflagBit i = some k ∧ u.dspControl.getLsbD k = true := by
  cases h.bitChange k with
  | kept e => exact .inl e
  | raised hf _ _ e => exact .inr ⟨hf, e⟩
  | overwritten _ hk => omega
  | wrdsp hi' _ => exact absurd hi' (hi _ _)

/-! ### The other fields -/

theorem accs_frame (h : Writes i s m u) : SameAccsBut (writtenAccs i) s u := by
  induction h with
  | nothing => exact fun _ _ => ⟨rfl, rfl⟩
  | gpr _ _ ih | flag _ _ _ _ ih | pos _ _ ih | carry _ _ ih | efi _ _ ih | ccond _ _ ih | control _ _ _ ih
  | read _ ih | unread _ ih | drawn _ ih => exact ih
  | hiLo ha _ ih =>
    intro b hb
    have hne : b ≠ _ := fun e => hb (e ▸ ha)
    rw [State.hi_setHiLo, State.lo_setHiLo, if_neg hne, if_neg hne]
    exact ih b hb

theorem ac0Unread (h : Writes i s m u) : u.ac0Unread = m.getD s.ac0Unread := by
  induction h with
  | nothing => rfl
  | gpr _ _ ih | hiLo _ _ ih | flag _ _ _ _ ih | pos _ _ ih | carry _ _ ih | efi _ _ ih | ccond _ _ ih
  | control _ _ _ ih | drawn _ ih => exact ih
  | read _ ih | unread _ ih =>
    simp only [State.markAcRead_ac0Unread, State.markAcUnread_ac0Unread]
    split
    · rfl
    · exact ih

theorem zeroRegister (h : Writes i s m u) : u.gprs.get 0 = s.gprs.get 0 := by
  induction h with
  | nothing => rfl
  | hiLo _ _ ih | flag _ _ _ _ ih | pos _ _ ih | carry _ _ ih | efi _ _ ih | ccond _ _ ih
  | control _ _ _ ih | read _ ih | unread _ ih | drawn _ ih => exact ih
  | @gpr _ _ r _ _ _ ih =>
    rw [State.setGpr_gprs]
    split
    · exact ih
    · next hr =>
      exact (Vector.getElem_set_ne r.isLt (by decide) (fun e => hr (Fin.ext e))).trans ih

/-- The flow of control and the environment's part of the state. -/
theorem flow_and_environment (h : Writes i s m u) :
    u.pc = s.pc ∧ u.slot = s.slot ∧ u.delayed = s.delayed ∧ SameEnvironment s u := by
  induction h with
  | nothing => exact ⟨rfl, rfl, rfl, rfl, rfl, rfl⟩
  | gpr _ _ ih | hiLo _ _ ih | flag _ _ _ _ ih | pos _ _ ih | carry _ _ ih | efi _ _ ih | ccond _ _ ih
  | control _ _ _ ih | read _ ih | unread _ ih | drawn _ ih => exact ih

end Writes

/-! ### The instructions -/

/-- Every instruction, a branch or not, writes what its tables allow and beyond that only the flow of control. -/
theorem exec_writes {i : Instr} {s t : State} (h : exec i s = .next t) :
    ∃ u, Writes i s (unreadAfter i) u ∧ t = { u with pc := t.pc, slot := t.slot, delayed := t.delayed } := by
  cases hb : isBranch i with
  | false =>
    obtain ⟨u, hw, rfl⟩ := exec_of_not_branch hb h
    exact ⟨u, hw, rfl⟩
  | true =>
    obtain ⟨-, ⟨_, rfl, rfl⟩ | ⟨_, rfl, rfl⟩⟩ := exec_of_branch hb h
    · exact ⟨s, .nothing, rfl⟩
    · exact ⟨s, .nothing, rfl⟩

/-- Settles O19: the writes keep to the table of the accumulators. -/
theorem accumulatorFrame : Obligations.AccumulatorFrame := by
  intro i s t h
  obtain ⟨u, hw, ht⟩ := exec_writes h
  rw [ht]
  exact hw.accs_frame

/-- Settles O20: the writes keep to the table of the bits. -/
theorem controlFrame : Obligations.ControlFrame := by
  intro i s t h
  obtain ⟨u, hw, ht⟩ := exec_writes h
  rw [ht]
  exact hw.control_frame

/-- Settles O22: a bit that changed is the instruction's own and was raised. -/
theorem ouflagBitsAreSticky : Obligations.OuflagBitsAreSticky := by
  intro i s t hi h n h16 h24
  obtain ⟨u, hw, ht⟩ := exec_writes h
  have hu : t.dspControl = u.dspControl := by rw [ht]
  rw [hu]
  rcases hw.ouflag_frame hi h16 h24 with e | ⟨hf, e⟩
  · exact ⟨e.trans, fun hs hset => absurd ((e.trans hs).symm.trans hset) Bool.false_ne_true⟩
  · exact ⟨fun _ => e, fun _ _ => hf⟩

/-- Settles O24: the mark the writes set last is the one of the table. -/
theorem unreadMarkOfAc0 : Obligations.UnreadMarkOfAc0 := by
  intro i s t h
  obtain ⟨u, hw, ht⟩ := exec_writes h
  rw [ht]
  exact hw.ac0Unread

/-- Settles O23: the writes leave `pc` and the latch to the advance. -/
theorem nextPcAndSlot : Obligations.NextPcAndSlot := by
  intro i s t hb h
  obtain ⟨u, hw, rfl⟩ := exec_of_not_branch hb h
  obtain ⟨hpc, -, hdelayed, -⟩ := hw.flow_and_environment
  exact ⟨by rw [State.advance_pc, hpc, hdelayed], rfl, rfl⟩

end Sys2Proof.Machine
end

section
/-!
Every step keeps the invariant (`10_state.md` R21, R24, R25, R31): `pc` and the latch through the alignment of what is
added to `pc`, every other part through the writes.
-/

namespace Sys2Proof.Machine

/-! ### Aligned addresses -/

theorem aligned_add {a b : Addr} (ha : a.toNat % 4 = 0) (hb : b.toNat % 4 = 0) : (a + b).toNat % 4 = 0 := by
  rw [BitVec.toNat_add]
  omega

theorem aligned_add_four {a : Addr} (ha : a.toNat % 4 = 0) : (a + 4#64).toNat % 4 = 0 := aligned_add ha rfl

/-- Two zeros appended stay the two lowest bits when the sign is extended. -/
theorem aligned_signExtend_append_zeros (offset : BitVec 16) :
    ((offset ++ 0#2).signExtend 64 : Addr).toNat % 4 = 0 := by
  have hbits : ((offset ++ 0#2).signExtend 64).setWidth 2 = 0#2 := by
    apply BitVec.eq_of_getLsbD_eq
    intro k hk
    rw [BitVec.getLsbD_setWidth, BitVec.getLsbD_signExtend, if_pos (by omega : k < 16 + 2), BitVec.getLsbD_append,
      if_pos hk]
    simp
  simpa using congrArg BitVec.toNat hbits

theorem State.aligned_branchTarget {s : State} (h : s.pc.toNat % 4 = 0) (offset : BitVec 16) :
    (s.branchTarget offset).toNat % 4 = 0 :=
  aligned_add (aligned_add_four h) (aligned_signExtend_append_zeros offset)

/-! ### The flow of control -/

/-- What the invariant says of `pc`, the slot and the latch. -/
structure State.FlowInv (s : State) : Prop where
  pcAligned : s.pc.toNat % 4 = 0
  delayedAligned : ∀ a, s.delayed = some a → a.toNat % 4 = 0
  delayedInDelaySlot : s.delayed ≠ none → s.slot = .delay

theorem State.Inv.flow {s : State} (h : s.Inv) : s.FlowInv :=
  ⟨h.pcAligned, h.delayedAligned, h.delayedInDelaySlot⟩

theorem State.FlowInv.advance {s : State} (h : s.FlowInv) : s.advance.FlowInv where
  pcAligned := by
    rw [State.advance_pc]
    cases hd : s.delayed with
    | none => exact aligned_add_four h.pcAligned
    | some a => exact h.delayedAligned a hd
  delayedAligned := fun _ ha => nomatch ha
  delayedInDelaySlot := fun hd => absurd rfl hd

theorem State.FlowInv.branchDelayed {s : State} (h : s.FlowInv) {target : Addr} (ht : target.toNat % 4 = 0) :
    (s.branchDelayed target).FlowInv where
  pcAligned := aligned_add_four h.pcAligned
  delayedAligned := by
    intro a ha
    rw [State.branchDelayed_delayed] at ha
    split at ha
    · cases ha; exact ht
    · cases ha
  delayedInDelaySlot := fun _ => rfl

theorem State.FlowInv.branchCompact {s : State} (h : s.FlowInv) {target : Addr} (ht : target.toNat % 4 = 0) :
    (s.branchCompact target).FlowInv where
  pcAligned := by
    rw [State.branchCompact_pc]
    split
    · exact ht
    · exact aligned_add_four h.pcAligned
  delayedAligned := fun _ ha => nomatch ha
  delayedInDelaySlot := fun hd => absurd rfl hd

theorem Writes.keeps_flow {i : Instr} {s u : State} {m : Option Bool} (h : Writes i s m u) (hs : s.FlowInv) :
    u.FlowInv := by
  obtain ⟨hpc, hslot, hdelayed, -⟩ := h.flow_and_environment
  exact ⟨hpc ▸ hs.pcAligned, hdelayed ▸ hs.delayedAligned, hdelayed ▸ hslot ▸ hs.delayedInDelaySlot⟩

theorem exec_keeps_flow {i : Instr} {s t : State} (hs : s.FlowInv) (h : exec i s = .next t) : t.FlowInv := by
  cases hb : isBranch i with
  | false =>
    obtain ⟨u, hw, rfl⟩ := exec_of_not_branch hb h
    exact (hw.keeps_flow hs).advance
  | true =>
    obtain ⟨-, ⟨offset, -, rfl⟩ | ⟨offset, -, rfl⟩⟩ := exec_of_branch hb h
    · exact hs.branchDelayed (State.aligned_branchTarget hs.pcAligned offset)
    · exact hs.branchCompact (State.aligned_branchTarget hs.pcAligned offset)

/-! ### The invariant -/

theorem exec_keeps_inv {i : Instr} {s t : State} (hs : s.Inv) (h : exec i s = .next t) : t.Inv := by
  obtain ⟨hpc, hdelayed, hslot⟩ := exec_keeps_flow hs.flow h
  obtain ⟨u, hw, ht⟩ := exec_writes h
  obtain ⟨-, -, -, hmem, -⟩ := hw.flow_and_environment
  refine ⟨hpc, hdelayed, hslot, ?_, ?_, ?_⟩ <;> rw [ht]
  · exact hw.zeroRegister.trans hs.zeroRegister
  · exact hw.reservedBit.trans hs.reservedBit
  · exact hmem ▸ hs.canonicalMemory

/-- A step that answers a next state ran an instruction. -/
theorem step_next {s t : State} (h : step s = .next t) : ∃ i, exec i s = .next t := by
  unfold step at h
  split at h
  · cases h
  · split at h
    · cases h
    · exact ⟨_, h⟩

/-- Settles O7: a step is the run of an instruction, and every instruction keeps the invariant. -/
theorem stepKeepsTheInvariant : Obligations.StepKeepsTheInvariant := by
  intro s t hs h
  obtain ⟨i, hi⟩ := step_next h
  exact exec_keeps_inv hs hi

end Sys2Proof.Machine
end

section
/-!
Memory is what it reads as (`20_memory.md` section 1, R52, R56): a canonical list is determined by its reads, so the
laws of writes are laws of reads; and a word placed byte by byte is the word that is read and fetched.
-/

namespace Sys2Proof.Machine

/-! ### The canonical form -/

theorem Memory.wfFrom_cons_iff {m : Memory} {low k : Nat} {b : Byte} :
    Memory.wfFrom low ((k, b) :: m) = true ↔
      low ≤ k ∧ k < 2 ^ 64 ∧ b ≠ Memory.unlisted ∧ Memory.wfFrom (k + 1) m = true := by
  simp only [Memory.wfFrom, Bool.and_eq_true, decide_eq_true_eq, and_assoc]

theorem Memory.read_cons_self (m : Memory) (k : Nat) (b : Byte) : Memory.read ((k, b) :: m) k = b := if_pos rfl

theorem Memory.read_cons_of_ne (m : Memory) {k a : Nat} (b : Byte) (h : a ≠ k) :
    Memory.read ((k, b) :: m) a = m.read a := if_neg h

/-- The first address a canonical list names is the lowest at which any memory that reads the same is listed. -/
theorem Memory.first_le_of_read_eq {m m' : Memory} {low low' k k' : Nat} {b b' : Byte}
    (h : Memory.wfFrom low ((k, b) :: m) = true) (h' : Memory.wfFrom low' ((k', b') :: m') = true)
    (hr : Memory.read ((k, b) :: m) k = Memory.read ((k', b') :: m') k) : k' ≤ k := by
  obtain ⟨-, -, hb, -⟩ := Memory.wfFrom_cons_iff.mp h
  obtain ⟨-, hk', hb', hm'⟩ := Memory.wfFrom_cons_iff.mp h'
  by_contra hlt
  have hbelow := Memory.read_below (Memory.wfFrom_cons_iff.mpr ⟨Nat.le_refl k', hk', hb', hm'⟩) (Nat.not_le.mp hlt)
  rw [← hr, Memory.read_cons_self] at hbelow
  exact hb hbelow

/-- Canonical lists are extensional: both name the same first address and byte, and above it they read the same. -/
theorem Memory.eq_of_read_eq {m m' : Memory} {low : Nat} (h : Memory.wfFrom low m = true)
    (h' : Memory.wfFrom low m' = true) (hr : ∀ a, m.read a = m'.read a) : m = m' := by
  induction m generalizing m' low with
  | nil =>
    cases m' with
    | nil => rfl
    | cons e' m' =>
      obtain ⟨-, -, hb', -⟩ := Memory.wfFrom_cons_iff.mp h'
      exact absurd ((hr e'.1).trans (Memory.read_cons_self ..)).symm hb'
  | cons e m ih =>
    obtain ⟨k, b⟩ := e
    obtain ⟨-, -, hb, hm⟩ := Memory.wfFrom_cons_iff.mp h
    cases m' with
    | nil => exact absurd ((Memory.read_cons_self ..).symm.trans (hr k)) hb
    | cons e' m' =>
      obtain ⟨k', b'⟩ := e'
      obtain ⟨-, -, -, hm'⟩ := Memory.wfFrom_cons_iff.mp h'
      obtain rfl : k = k' :=
        Nat.le_antisymm (Memory.first_le_of_read_eq h' h (hr k').symm) (Memory.first_le_of_read_eq h h' (hr k))
      have hbytes := hr k
      rw [Memory.read_cons_self, Memory.read_cons_self] at hbytes
      have htails : ∀ a, Memory.read m a = Memory.read m' a := by
        intro a
        by_cases ha : a = k
        · rw [Memory.read_below hm (by omega), Memory.read_below hm' (by omega)]
        · rw [← Memory.read_cons_of_ne m b ha, hr a, Memory.read_cons_of_ne m' b' ha]
      rw [hbytes, ih hm hm' htails]

/-! ### Writes to canonical memory -/

section

variable {m : Memory} {a b : Nat} (h : m.wf = true) (ha : a < 2 ^ 64)
include h ha

theorem Memory.write_read_self : Memory.write m a (m.read a) = m := by
  refine Memory.eq_of_read_eq (Memory.wf_write a _ ha h) h fun c => ?_
  rw [Memory.read_write _ _ h]
  split
  · next hc => rw [hc]
  · rfl

theorem Memory.write_write_same (v w : Byte) : Memory.write (Memory.write m a v) a w = Memory.write m a w := by
  have hv := Memory.wf_write a v ha h
  refine Memory.eq_of_read_eq (Memory.wf_write a w ha hv) (Memory.wf_write a w ha h) fun c => ?_
  rw [Memory.read_write _ _ hv, Memory.read_write _ _ h, Memory.read_write _ _ h]
  split <;> rfl

theorem Memory.write_comm (hb : b < 2 ^ 64) (hab : a ≠ b) (v w : Byte) :
    Memory.write (Memory.write m a v) b w = Memory.write (Memory.write m b w) a v := by
  have hv := Memory.wf_write a v ha h
  have hw := Memory.wf_write b w hb h
  refine Memory.eq_of_read_eq (Memory.wf_write b w hb hv) (Memory.wf_write a v ha hw) fun c => ?_
  rw [Memory.read_write _ _ hv, Memory.read_write _ _ h, Memory.read_write _ _ hw, Memory.read_write _ _ h]
  by_cases hc : c = a
  · rw [if_pos hc, if_pos hc, if_neg (hc ▸ hab)]
  · rw [if_neg hc, if_neg hc]

end

/-- Settles O28: canonical lists are extensional, and the laws of writes follow by reading both sides. -/
theorem memoryIsItsContents : Obligations.MemoryIsItsContents :=
  ⟨fun _ _ hm hk => Memory.eq_of_read_eq hm hk, fun _ _ _ v w h ha hb =>
    ⟨Memory.write_read_self h ha, Memory.write_write_same h ha v w, fun hab => Memory.write_comm h ha hb hab v w⟩⟩

/-! ### A word in memory -/

/-- The word of its own four bytes, in either order. -/
theorem wordOfBytes_byteOfWord (be : Bool) (w : Word) :
    wordOfBytes be (byteOfWord be w 0) (byteOfWord be w 1) (byteOfWord be w 2) (byteOfWord be w 3) = w := by
  have hpairs : (byteD w ++ byteC w) ++ (byteB w ++ byteA w) = w := by
    apply BitVec.eq_of_toNat_eq
    simp only [toNat_append_eq_add, toNat_byteD, toNat_byteC, toNat_byteB, toNat_byteA]
    omega
  cases be <;> exact hpairs

theorem State.read32_eq_wordOfBytes (s : State) (a : Addr) :
    s.read32 a = wordOfBytes s.params.bigEndian (s.readByte a) (s.readByte (a + 1#64)) (s.readByte (a + 2#64))
      (s.readByte (a + 3#64)) := by
  unfold State.read32 State.read16
  rw [BitVec.add_assoc a 2#64 1#64]
  rfl

/-- What a placed word leaves to be read, for every address. -/
theorem State.readByte_storeWord {s : State} (h : s.mem.wf = true) (a : Addr) (w : Word) (c : Addr) :
    (s.storeWord a w).readByte c =
      if c = a + 3#64 then byteOfWord s.params.bigEndian w 3
      else if c = a + 2#64 then byteOfWord s.params.bigEndian w 2
      else if c = a + 1#64 then byteOfWord s.params.bigEndian w 1
      else if c = a then byteOfWord s.params.bigEndian w 0
      else s.readByte c := by
  have h0 := State.wf_storeByte a (byteOfWord s.params.bigEndian w 0) h
  have h1 := State.wf_storeByte (a + 1#64) (byteOfWord s.params.bigEndian w 1) h0
  have h2 := State.wf_storeByte (a + 2#64) (byteOfWord s.params.bigEndian w 2) h1
  unfold State.storeWord
  rw [State.readByte_storeByte h2, State.readByte_storeByte h1, State.readByte_storeByte h0,
    State.readByte_storeByte h]

theorem State.read32_storeWord {s : State} (h : s.mem.wf = true) (a : Addr) (w : Word) :
    (s.storeWord a w).read32 a = w := by
  rw [State.read32_eq_wordOfBytes]
  simp only [State.readByte_storeWord h, State.storeWord_params]
  simpa using wordOfBytes_byteOfWord s.params.bigEndian w

/-- An aligned word lies below the end of the address space, so its four addresses do not wrap. -/
theorem State.readByte_storeWord_outside {s : State} (h : s.mem.wf = true) {a : Addr} (ha : a.toNat % 4 = 0)
    (w : Word) {c : Addr} (hc : c.toNat < a.toNat ∨ a.toNat + 4 ≤ c.toNat) :
    (s.storeWord a w).readByte c = s.readByte c := by
  have hne : ∀ k < 4, c ≠ a + BitVec.ofNat 64 k := by
    intro k hk e
    have hcv : c.toNat = a.toNat + k := by
      rw [e, BitVec.toNat_add, BitVec.toNat_ofNat]
      omega
    omega
  rw [State.readByte_storeWord h, if_neg (hne 3 (by decide)), if_neg (hne 2 (by decide)), if_neg (hne 1 (by decide)),
    if_neg (by simpa using hne 0 (by decide))]

/-- A word placed at an aligned `pc` is the word fetched. -/
theorem State.fetch_storeWord_pc {s : State} (h : s.mem.wf = true) (hpc : s.pc.toNat % 4 = 0) (w : Word) :
    (s.storeWord s.pc w).fetch = some w := by
  have hpc' : (s.storeWord s.pc w).pc.toNat % 4 = 0 := by rw [State.storeWord_pc, hpc]
  rw [fetch_of_aligned hpc', State.storeWord_pc, State.read32_storeWord h]

theorem step_of_fetch {s : State} {w : Word} {i : Instr} (hf : s.fetch = some w) (hd : decodeWord w = .ok i) :
    step s = exec i s := by
  unfold step
  rw [hf]
  simp only [hd]

/-- Settles O10: the placed word is read back where it was placed, so it is what a fetch there decodes. -/
theorem placedWordIsFetched : Obligations.PlacedWordIsFetched := by
  intro s a w h ha
  refine ⟨State.read32_storeWord h a w, fun _ hc => State.readByte_storeWord_outside h ha w hc, ?_⟩
  rintro i rfl hd
  exact step_of_fetch (State.fetch_storeWord_pc h ha w) hd

end Sys2Proof.Machine
end

section
/-!
Instructions and memory: no instruction stores (`20_memory.md` R51), and a load whose address fails its check ends in
the trap of that check (`45_loads.md` R340 b).
-/

namespace Sys2Proof.Machine

open Sys2Proof.Config

/-! ### No instruction stores -/

theorem SameEnvironment.sameBytes {s t : State} (h : SameEnvironment s t) : SameBytes s t :=
  fun a => congrArg (Memory.read · a.toNat) h.1

/-- Settles O21: no write an instruction is made of touches the environment's part of the state. -/
theorem memoryAndEnvironmentFrame : Obligations.MemoryAndEnvironmentFrame := by
  intro i s t h
  obtain ⟨u, hw, ht⟩ := exec_writes h
  obtain ⟨-, -, -, henv⟩ := hw.flow_and_environment
  have hsame : SameEnvironment s t := by rw [ht]; exact henv
  exact ⟨hsame.sameBytes, hsame⟩

/-! ### The traps of a load -/

theorem loadCheck_of_misaligned {s : State} {a : Addr} {n : Nat} (h : a.toNat % n ≠ 0) :
    loadCheck s a n = some .addressError := if_pos h

theorem loadCheck_of_memFault {s : State} {a : Addr} {n : Nat} {k : LoadFault} (h : a.toNat % n = 0)
    (hk : memFault s.params.memFault a n = some k) : loadCheck s a n = some (causeOf k) := by
  unfold loadCheck
  rw [if_neg (not_not_intro h), hk]
  rfl

/-- An available load raises what the checks on its address raise, with the address as info. -/
theorem exec_load_of_loadCheck {i : Instr} {s : State} {a : Addr} {n : Nat} {c : Cause} (hi : Available i s)
    (hl : loadAccess s i = some (a, n)) (hc : loadCheck s a n = some c) : exec i s = raise c a s := by
  rcases exec_frame i s with ⟨-, hn, -⟩ | ⟨a', n', after, -, hl', e⟩ | ⟨-, hn, -⟩
  · cases hn.symm.trans hl
  · cases hl'.symm.trans hl
    rw [e, loading, (dspCheck_eq_none_iff i s).mpr hi]
    simp only [hc]
  · cases hn.symm.trans hl

/-- Settles O15: both traps are answers of the check on the address. -/
theorem loadTraps : Obligations.LoadTraps := fun _ _ _ _ hi hl =>
  ⟨fun hmis => exec_load_of_loadCheck hi hl (loadCheck_of_misaligned hmis),
    fun _ hal hk => exec_load_of_loadCheck hi hl (loadCheck_of_memFault hal hk)⟩

end Sys2Proof.Machine
end

section
/-!
Decoding what was encoded (`30_encoding.md` R70, R71, R87): every part of a field that an operand is put into is read
back as that operand, and the arm of the decoder that the fixed fields select is the instruction's own.
-/

namespace Sys2Proof

/-! ### Operands in their fields -/

theorem high1_ofNat {n : Nat} (h : n < 16) : high1 (BitVec.ofNat 5 n) = 0#1 := by interval_cases n <;> rfl

theorem high2_ofNat {n : Nat} (h : n < 8) : high2 (BitVec.ofNat 5 n) = 0#2 := by interval_cases n <;> rfl

theorem high3_ofNat {n : Nat} (h : n < 4) : high3 (BitVec.ofNat 5 n) = 0#3 := by interval_cases n <;> rfl

theorem toNat_low2_ofNat {n : Nat} (h : n < 4) : (low2 (BitVec.ofNat 5 n)).toNat = n := by interval_cases n <;> rfl

theorem toNat_low3_ofNat {n : Nat} (h : n < 8) : (low3 (BitVec.ofNat 5 n)).toNat = n := by interval_cases n <;> rfl

theorem toNat_low4_ofNat {n : Nat} (h : n < 16) : (low4 (BitVec.ofNat 5 n)).toNat = n := by interval_cases n <;> rfl

@[simp] theorem high1_append_zeros (x : BitVec 1) : high1 (x ++ 0#4) = x := by revert x; decide

@[simp] theorem low4_append_zeros (x : BitVec 1) : low4 (x ++ 0#4) = 0#4 := by revert x; decide

@[simp] theorem high2_zeros_append (x : BitVec 3) : high2 (0#2 ++ x) = 0#2 := by revert x; decide

@[simp] theorem low3_zeros_append (x : BitVec 3) : low3 (0#2 ++ x) = x := by revert x; decide

/-- An immediate is put together again from the two fields it is cut into. -/
theorem append_of_fields (n m : Nat) (x : BitVec (n + m)) : x.extractLsb' m n ++ x.extractLsb' 0 m = x :=
  BitVec.extractLsb'_append_extractLsb'

/-- The offset of a branch fills the three lowest fields. -/
theorem offset_of_fields (x : BitVec 16) : x.extractLsb' 11 5 ++ x.extractLsb' 6 5 ++ x.extractLsb' 0 6 = x := by
  have hcd : x.extractLsb' 11 5 ++ x.extractLsb' 6 5 = x.extractLsb' 6 10 :=
    BitVec.extractLsb'_append_extractLsb'_eq_extractLsb' rfl
  rw [hcd]
  exact append_of_fields 10 6 x

/-! ### Every instruction -/

/-- An arm of the decoder with must-be-zero fields answers where they are zero. -/
theorem decodeWord_of_guarded {op : BitVec 6} {a b c d : BitVec 5} {f : BitVec 6} {z : Prop} {_ : Decidable z}
    {i j : Instr} (hd : decodeFields op a b c d f = zeroFields z j) (hz : z) (hj : j = i) :
    decodeWord (instrWord op a b c d f) = .ok i := by
  rw [decodeWord_instrWord, hd, zeroFields_of hz, hj]

/-- An arm without them, or with fixed fields that are zero, answers. -/
theorem decodeWord_of_unguarded {op : BitVec 6} {a b c d : BitVec 5} {f : BitVec 6} {i j : Instr}
    (hd : decodeFields op a b c d f = .ok j) (hj : j = i) : decodeWord (instrWord op a b c d f) = .ok i := by
  rw [decodeWord_instrWord, hd, hj]

theorem decodeWord_encode {i : Instr} (h : i.wellFormed = true) : decodeWord (encode i) = .ok i := by
  cases i with
  -- registers, beside fixed fields
  | adduQb | subuQb | adduSQb | subuSQb | muleuSPhQbl | muleuSPhQbr | adduPh | subuPh | addqPh | subqPh | adduSPh
  | subuSPh | addqSPh | subqSPh | addsc | addwc | modsub | addqSW | subqSW | muleqSWPhl | muleqSWPhr | mulqSPh
  | mulqRsPh | pickQb | cmpguEqQb | cmpguLtQb | cmpguLeQb | pickPh | precrqQbPh | precrQbPh | packrlPh | precrquSQbPh
  | precrqPhW | precrqRsPhW | cmpgduEqQb | cmpgduLtQb | cmpgduLeQb | adduhQb | subuhQb | adduhRQb | subuhRQb | addqhPh
  | subqhPh | addqhRPh | subqhRPh | mulPh | mulSPh | addqhW | subqhW | addqhRW | subqhRW | mulqSW | mulqRsW | shllvQb
  | shrlvQb | shravQb | shravRQb | shllvPh | shravPh | shllvSPh | shravRPh | shllvSW | shravRW | shrlvPh | lwx | lhx
  | lbux | ldx | radduWQb | cmpuEqQb | cmpuLtQb | cmpuLeQb | cmpEqPh | cmpLtPh | cmpLePh | absqSQb | replvQb
  | precequPhQbl | precequPhQbr | precequPhQbla | precequPhQbra | absqSPh | replvPh | preceqWPhl | preceqWPhr | absqSW
  | bitrev | preceuPhQbl | preceuPhQbr | preceuPhQbla | preceuPhQbra | insv =>
    exact decodeWord_of_unguarded rfl rfl
  -- an accumulator
  | dpaWPh | dpsWPh | mulsaWPh | dpauHQbl | dpaqSWPh | dpsqSWPh | mulsaqSWPh | dpauHQbr | dpaxWPh | dpsxWPh | dpsuHQbl
  | dpaqSaLW | dpsqSaLW | dpsuHQbr | maqSaWPhl | maqSaWPhr | maqSWPhl | maqSWPhr | dpaqxSWPh | dpsqxSWPh | dpaqxSaWPh
  | dpsqxSaWPh | madd | maddu | msub | msubu | mult | multu | extrvW | extpv | extrvRW | extrvRsW | extpdpv | extrvSH
  | shilov | mthlip | mthi | mtlo | mfhi | mflo =>
    exact decodeWord_of_guarded rfl (by simp) (by simp)
  -- an amount of five, four, three or two bits
  | shllSW _ _ n | shraRW _ _ n | append _ _ n | prepend _ _ n | precrSraPhW _ _ n | precrSraRPhW _ _ n =>
    have hn : n < 32 := of_decide_eq_true h
    exact decodeWord_of_unguarded rfl (by simp [toNat_ofNat_field hn])
  | extrW _ _ n | extp _ _ n | extrRW _ _ n | extrRsW _ _ n | extpdp _ _ n | extrSH _ _ n =>
    have hn : n < 32 := of_decide_eq_true h
    exact decodeWord_of_guarded rfl (by simp) (by simp [toNat_ofNat_field hn])
  | shllPh _ _ n | shraPh _ _ n | shllSPh _ _ n | shraRPh _ _ n | shrlPh _ _ n =>
    have hn : n < 16 := of_decide_eq_true h
    exact decodeWord_of_guarded rfl (high1_ofNat hn) (by simp [toNat_low4_ofNat hn])
  | shllQb _ _ n | shrlQb _ _ n | shraQb _ _ n | shraRQb _ _ n =>
    have hn : n < 8 := of_decide_eq_true h
    exact decodeWord_of_guarded rfl (high2_ofNat hn) (by simp [toNat_low3_ofNat hn])
  | balign _ _ n =>
    have hn : n < 4 := of_decide_eq_true h
    exact decodeWord_of_guarded rfl (high3_ofNat hn) (by simp [toNat_low2_ofNat hn])
  -- an immediate
  | replPh _ x | rddsp _ x | wrdsp _ x => exact decodeWord_of_unguarded rfl (by simpa using append_of_fields 5 5 x)
  | replQb _ x => exact decodeWord_of_guarded rfl (by simp) (by simpa using append_of_fields 3 5 x)
  | shilo _ x => exact decodeWord_of_guarded rfl (by simp) (by simpa using append_of_fields 5 1 x)
  | bposge32 x | bposge32c x => exact decodeWord_of_unguarded rfl (by rw [offset_of_fields])

/-- Settles O1: the arm the fixed fields select reads every operand back from its field. -/
theorem decodeInvertsEncode : Obligations.DecodeInvertsEncode := fun _ h => decodeWord_encode h

end Sys2Proof
end

section
/-!
Encoding what was decoded (`30_encoding.md` R70, R88): where the must-be-zero fields are zero, every field is the field
of the operand read from it; so an arm of the decoder that answers gives the word back.
-/

namespace Sys2Proof

/-! ### Fields of their operands -/

theorem high1_append_low4 {x : BitVec 5} (h : low4 x = 0#4) : high1 x ++ 0#4 = x := by revert x; decide

theorem zeros_append_low3 {x : BitVec 5} (h : high2 x = 0#2) : 0#2 ++ low3 x = x := by revert x; decide

theorem ofNat_low2 {x : BitVec 5} (h : high3 x = 0#3) : BitVec.ofNat 5 (low2 x).toNat = x := by revert x; decide

theorem ofNat_low3 {x : BitVec 5} (h : high2 x = 0#2) : BitVec.ofNat 5 (low3 x).toNat = x := by revert x; decide

theorem ofNat_low4 {x : BitVec 5} (h : high1 x = 0#1) : BitVec.ofNat 5 (low4 x).toNat = x := by revert x; decide

/-- The two fields an immediate was put together from. -/
theorem fields_of_append {n m : Nat} (x : BitVec n) (y : BitVec m) :
    (x ++ y).extractLsb' m n = x ∧ (x ++ y).extractLsb' 0 m = y :=
  ⟨BitVec.extractLsb'_append_eq_left, BitVec.extractLsb'_append_eq_right⟩

/-- A selecting field is the number its arm names. -/
theorem eq_ofNat_of_toNat_eq {n k : Nat} {x : BitVec n} (h : x.toNat = k) : x = BitVec.ofNat n k := by
  rw [← h, BitVec.ofNat_toNat, BitVec.setWidth_eq]

/-! ### Arms of the decoder -/

/-- Whatever instruction the decoder's answer holds is well formed and has the encoding `w`. -/
def Decoded.Inverts (x : Decoded) (w : Word) : Prop := ∀ i, x = .ok i → i.wellFormed = true ∧ encode i = w

theorem Decoded.inverts_error {e : DecodeError} {w : Word} : Decoded.Inverts (.error e) w := nofun

theorem Decoded.inverts_ok {i : Instr} {w : Word} (hw : i.wellFormed = true) (he : encode i = w) :
    Decoded.Inverts (.ok i) w := by
  rintro _ ⟨⟩
  exact ⟨hw, he⟩

theorem Decoded.inverts_zeroFields {z : Prop} [Decidable z] {i : Instr} {w : Word}
    (hw : i.wellFormed = true) (he : z → encode i = w) : Decoded.Inverts (zeroFields z i) w := by
  intro _ h
  obtain ⟨hz, rfl⟩ := zeroFields_eq_ok.mp h
  exact ⟨hw, he hz⟩

section

variable (a b c d : BitVec 5) (f : BitVec 6)

theorem inverts_decodeLX : (decodeLX a b c d).Inverts (instrWord 0b011111#6 a b c d 0b001010#6) := by
  unfold decodeLX
  split
  case h_5 => exact Decoded.inverts_error
  all_goals obtain rfl := eq_ofNat_of_toNat_eq ‹_›
  all_goals exact Decoded.inverts_ok rfl rfl

theorem inverts_decodeAdduQb : (decodeAdduQb a b c d).Inverts (instrWord 0b011111#6 a b c d 0b010000#6) := by
  unfold decodeAdduQb
  split
  case h_25 => exact Decoded.inverts_error
  all_goals obtain rfl := eq_ofNat_of_toNat_eq ‹_›
  -- RADDU.W.QB
  case h_18 => exact Decoded.inverts_zeroFields rfl (by rintro rfl; rfl)
  all_goals exact Decoded.inverts_ok rfl rfl

theorem inverts_decodeCmpuEqQb : (decodeCmpuEqQb a b c d).Inverts (instrWord 0b011111#6 a b c d 0b010001#6) := by
  unfold decodeCmpuEqQb
  split
  case h_23 => exact Decoded.inverts_error
  all_goals obtain rfl := eq_ofNat_of_toNat_eq ‹_›
  -- the compares without a destination
  case h_1 | h_2 | h_3 | h_8 | h_9 | h_10 => exact Decoded.inverts_zeroFields rfl (by rintro rfl; rfl)
  -- PRECR_SRA.PH.W, PRECR_SRA_R.PH.W
  case h_21 | h_22 => exact Decoded.inverts_ok (decide_eq_true c.isLt) (by simp [encode])
  all_goals exact Decoded.inverts_ok rfl rfl

theorem inverts_decodeAbsqSPh : (decodeAbsqSPh a b c d).Inverts (instrWord 0b011111#6 a b c d 0b010010#6) := by
  unfold decodeAbsqSPh
  split
  case h_19 => exact Decoded.inverts_error
  all_goals obtain rfl := eq_ofNat_of_toNat_eq ‹_›
  -- REPL.QB, REPL.PH
  case h_2 =>
    obtain ⟨ha, hb⟩ := fields_of_append (low3 a) b
    exact Decoded.inverts_zeroFields rfl fun hz => by rw [encode, ha, hb, zeros_append_low3 hz, regField_reg]
  case h_9 =>
    obtain ⟨ha, hb⟩ := fields_of_append a b
    exact Decoded.inverts_ok rfl (by rw [encode, ha, hb, regField_reg])
  all_goals exact Decoded.inverts_zeroFields rfl (by rintro rfl; rfl)

theorem inverts_decodeShllQb : (decodeShllQb a b c d).Inverts (instrWord 0b011111#6 a b c d 0b010011#6) := by
  unfold decodeShllQb
  split
  case h_23 => exact Decoded.inverts_error
  all_goals obtain rfl := eq_ofNat_of_toNat_eq ‹_›
  -- an amount of three, four or five bits
  case h_1 | h_2 | h_5 | h_6 =>
    exact Decoded.inverts_zeroFields (decide_eq_true (low3 a).isLt)
      fun ha => by rw [encode, ofNat_low3 ha, regField_reg, regField_reg]
  case h_9 | h_10 | h_13 | h_14 | h_21 =>
    exact Decoded.inverts_zeroFields (decide_eq_true (low4 a).isLt)
      fun ha => by rw [encode, ofNat_low4 ha, regField_reg, regField_reg]
  case h_17 | h_18 => exact Decoded.inverts_ok (decide_eq_true a.isLt) (by simp [encode])
  all_goals exact Decoded.inverts_ok rfl rfl

theorem inverts_decodeAdduhQb : (decodeAdduhQb a b c d).Inverts (instrWord 0b011111#6 a b c d 0b011000#6) := by
  unfold decodeAdduhQb
  split
  case h_17 => exact Decoded.inverts_error
  all_goals obtain rfl := eq_ofNat_of_toNat_eq ‹_›
  all_goals exact Decoded.inverts_ok rfl rfl

theorem inverts_decodeDpaWPh : (decodeDpaWPh a b c d).Inverts (instrWord 0b011111#6 a b c d 0b110000#6) := by
  unfold decodeDpaWPh
  split
  case h_23 => exact Decoded.inverts_error
  all_goals obtain rfl := eq_ofNat_of_toNat_eq ‹_›
  all_goals exact Decoded.inverts_zeroFields rfl fun hc => by simp [encode, accField_acc hc]

theorem inverts_decodeAppend : (decodeAppend a b c d).Inverts (instrWord 0b011111#6 a b c d 0b110001#6) := by
  unfold decodeAppend
  split
  case h_4 => exact Decoded.inverts_error
  all_goals obtain rfl := eq_ofNat_of_toNat_eq ‹_›
  -- BALIGN
  case h_3 =>
    exact Decoded.inverts_zeroFields (decide_eq_true (low2 c).isLt)
      fun hc => by rw [encode, ofNat_low2 hc, regField_reg, regField_reg]
  all_goals exact Decoded.inverts_ok (decide_eq_true c.isLt) (by simp [encode])

theorem inverts_decodeExtrW : (decodeExtrW a b c d).Inverts (instrWord 0b011111#6 a b c d 0b111000#6) := by
  unfold decodeExtrW
  split
  case h_18 => exact Decoded.inverts_error
  all_goals obtain rfl := eq_ofNat_of_toNat_eq ‹_›
  -- RDDSP, WRDSP, SHILO
  case h_13 =>
    obtain ⟨ha, hb⟩ := fields_of_append a b
    exact Decoded.inverts_ok rfl (by rw [encode, ha, hb, regField_reg])
  case h_14 =>
    obtain ⟨hb, hc⟩ := fields_of_append b c
    exact Decoded.inverts_ok rfl (by rw [encode, hb, hc, regField_reg])
  case h_15 =>
    obtain ⟨ha, hb⟩ := fields_of_append a (high1 b)
    exact Decoded.inverts_zeroFields rfl
      fun ⟨hz, hc⟩ => by rw [encode, ha, hb, high1_append_low4 hz, accField_acc hc]
  -- SHILOV, MTHLIP
  case h_16 | h_17 => exact Decoded.inverts_zeroFields rfl fun ⟨hb, hc⟩ => by simp [encode, hb, accField_acc hc]
  -- the extracts, the amount in a register or in the word
  case h_2 | h_4 | h_6 | h_8 | h_10 | h_12 =>
    exact Decoded.inverts_zeroFields rfl fun hc => by simp [encode, accField_acc hc]
  all_goals
    exact Decoded.inverts_zeroFields (decide_eq_true a.isLt) fun hc => by simp [encode, accField_acc hc]

/-! ### The groups -/

theorem inverts_decodeSpecial3 : (decodeSpecial3 a b c d f).Inverts (instrWord 0b011111#6 a b c d f) := by
  unfold decodeSpecial3
  split
  case h_11 => exact Decoded.inverts_error
  all_goals obtain rfl := eq_ofNat_of_toNat_eq ‹_›
  · exact inverts_decodeLX a b c d
  · exact Decoded.inverts_zeroFields rfl (by rintro ⟨rfl, rfl⟩; rfl)
  · exact inverts_decodeAdduQb a b c d
  · exact inverts_decodeCmpuEqQb a b c d
  · exact inverts_decodeAbsqSPh a b c d
  · exact inverts_decodeShllQb a b c d
  · exact inverts_decodeAdduhQb a b c d
  · exact inverts_decodeDpaWPh a b c d
  · exact inverts_decodeAppend a b c d
  · exact inverts_decodeExtrW a b c d

/-- The three fields a branch's offset was put together from. -/
theorem fields_of_offset : (c ++ d ++ f).extractLsb' 11 5 = c ∧ (c ++ d ++ f).extractLsb' 6 5 = d ∧
    (c ++ d ++ f).extractLsb' 0 6 = f := by
  obtain ⟨hc, hd⟩ := fields_of_append c d
  exact ⟨(BitVec.extractLsb'_append_eq_of_le (by decide)).trans hc,
    (BitVec.extractLsb'_append_eq_of_le (by decide)).trans hd, (fields_of_append (c ++ d) f).2⟩

theorem inverts_decodeRegimm : (decodeRegimm a b c d f).Inverts (instrWord 0b000001#6 a b c d f) := by
  obtain ⟨hc, hd, hf⟩ := fields_of_offset c d f
  unfold decodeRegimm
  split
  case h_3 => exact Decoded.inverts_error
  all_goals obtain rfl := eq_ofNat_of_toNat_eq ‹_›
  all_goals exact Decoded.inverts_zeroFields rfl (by rintro rfl; rw [encode, hc, hd, hf])

theorem inverts_decodeSpecial2 : (decodeSpecial2 a b c d f).Inverts (instrWord 0b011100#6 a b c d f) := by
  unfold decodeSpecial2
  split
  case h_5 => exact Decoded.inverts_error
  all_goals obtain rfl := eq_ofNat_of_toNat_eq ‹_›
  all_goals exact Decoded.inverts_zeroFields rfl fun ⟨hc, hd⟩ => by simp [encode, accField_acc hc, hd]

theorem inverts_decodeSpecial : (decodeSpecial a b c d f).Inverts (instrWord 0b000000#6 a b c d f) := by
  unfold decodeSpecial
  split
  case h_7 => exact Decoded.inverts_error
  all_goals obtain rfl := eq_ofNat_of_toNat_eq ‹_›
  -- MFHI, MFLO; MTHI, MTLO; MULT, MULTU
  case h_1 | h_3 =>
    exact Decoded.inverts_zeroFields rfl fun ⟨ha, hb, hd⟩ => by simp [encode, accField_acc ha, hb, hd]
  case h_2 | h_4 =>
    exact Decoded.inverts_zeroFields rfl fun ⟨hb, hc, hd⟩ => by simp [encode, hb, accField_acc hc, hd]
  case h_5 | h_6 =>
    exact Decoded.inverts_zeroFields rfl fun ⟨hc, hd⟩ => by simp [encode, accField_acc hc, hd]

theorem inverts_decodeFields (op : BitVec 6) : (decodeFields op a b c d f).Inverts (instrWord op a b c d f) := by
  unfold decodeFields
  split
  case h_5 => exact Decoded.inverts_error
  all_goals obtain rfl := eq_ofNat_of_toNat_eq ‹_›
  · exact inverts_decodeSpecial a b c d f
  · exact inverts_decodeRegimm a b c d f
  · exact inverts_decodeSpecial2 a b c d f
  · exact inverts_decodeSpecial3 a b c d f

end

theorem inverts_decodeWord (w : Word) : (decodeWord w).Inverts w := by
  have h := inverts_decodeFields (fieldA w) (fieldB w) (fieldC w) (fieldD w) (fieldF w) (fieldOp w)
  rwa [instrWord_fields] at h

/-- Settles O2: every arm of the decoder that answers gives its word back. -/
theorem encodeInvertsDecode : Obligations.EncodeInvertsDecode := fun w i => inverts_decodeWord w i

end Sys2Proof
end

section
/-!
The opcode table (`30_encoding.md` R93, `60_exceptions.md` R413). A row's mask and match are conditions on the six
fields, the ones under which an arm of the decoder answers; the row is the one of the arm's instruction, so no word
matches two.
-/

namespace Sys2Proof

/-! ### Fields of a row -/

theorem extractLsb'_ofNat_word (n k m : Nat) (h : k + m ≤ 32) :
    (BitVec.ofNat 32 n).extractLsb' k m = BitVec.ofNat m (n >>> k) := by
  apply BitVec.eq_of_getLsbD_eq
  intro j hj
  have hkj : k + j < 32 := by omega
  rw [BitVec.getLsbD_extractLsb', BitVec.getLsbD_ofNat, BitVec.getLsbD_ofNat, Nat.testBit_shiftRight]
  simp [hj, hkj]

@[simp] theorem fieldOp_ofNat (n : Nat) : fieldOp (BitVec.ofNat 32 n) = BitVec.ofNat 6 (n >>> 26) :=
  extractLsb'_ofNat_word n 26 6 (by decide)

@[simp] theorem fieldA_ofNat (n : Nat) : fieldA (BitVec.ofNat 32 n) = BitVec.ofNat 5 (n >>> 21) :=
  extractLsb'_ofNat_word n 21 5 (by decide)

@[simp] theorem fieldB_ofNat (n : Nat) : fieldB (BitVec.ofNat 32 n) = BitVec.ofNat 5 (n >>> 16) :=
  extractLsb'_ofNat_word n 16 5 (by decide)

@[simp] theorem fieldC_ofNat (n : Nat) : fieldC (BitVec.ofNat 32 n) = BitVec.ofNat 5 (n >>> 11) :=
  extractLsb'_ofNat_word n 11 5 (by decide)

@[simp] theorem fieldD_ofNat (n : Nat) : fieldD (BitVec.ofNat 32 n) = BitVec.ofNat 5 (n >>> 6) :=
  extractLsb'_ofNat_word n 6 5 (by decide)

@[simp] theorem fieldF_ofNat (n : Nat) : fieldF (BitVec.ofNat 32 n) = BitVec.ofNat 6 n :=
  extractLsb'_ofNat_word n 0 6 (by decide)

theorem eq_iff_fields_eq {v w : Word} : v = w ↔
    fieldOp v = fieldOp w ∧ fieldA v = fieldA w ∧ fieldB v = fieldB w ∧ fieldC v = fieldC w ∧ fieldD v = fieldD w ∧
      fieldF v = fieldF w := by
  constructor
  · rintro rfl
    exact ⟨rfl, rfl, rfl, rfl, rfl, rfl⟩
  · rintro ⟨hop, ha, hb, hc, hd, hf⟩
    rw [← instrWord_fields v, hop, ha, hb, hc, hd, hf, instrWord_fields]

/-- A word matches a row field by field. -/
theorem and_eq_iff_fields {w mask pattern : Word} : w &&& mask = pattern ↔
    fieldOp w &&& fieldOp mask = fieldOp pattern ∧ fieldA w &&& fieldA mask = fieldA pattern ∧
      fieldB w &&& fieldB mask = fieldB pattern ∧ fieldC w &&& fieldC mask = fieldC pattern ∧
        fieldD w &&& fieldD mask = fieldD pattern ∧ fieldF w &&& fieldF mask = fieldF pattern := by
  simp only [fieldOp, fieldA, fieldB, fieldC, fieldD, fieldF, ← BitVec.extractLsb'_and]
  exact eq_iff_fields_eq

/-! What a mask says of its field: all of it is fixed, or some of its bits are zero. -/

@[simp] theorem and_mask6 (x : BitVec 6) : x &&& 0b111111#6 = x := BitVec.and_allOnes

@[simp] theorem and_mask5 (x : BitVec 5) : x &&& 0b11111#5 = x := BitVec.and_allOnes

@[simp] theorem and_mask_high1 {x : BitVec 5} : x &&& 0b10000#5 = 0#5 ↔ high1 x = 0#1 := by revert x; decide

@[simp] theorem and_mask_high2 {x : BitVec 5} : x &&& 0b11000#5 = 0#5 ↔ high2 x = 0#2 := by revert x; decide

@[simp] theorem and_mask_high3 {x : BitVec 5} : x &&& 0b11100#5 = 0#5 ↔ high3 x = 0#3 := by revert x; decide

@[simp] theorem and_mask_low4 {x : BitVec 5} : x &&& 0b01111#5 = 0#5 ↔ low4 x = 0#4 := by revert x; decide

/-! ### The row of an instruction -/

/-- The table in the order of the constructors of `Instr`, which name the APPEND class before the EXTR.W class. -/
def rowsByConstructor : List OpcodeRow :=
  rowsAdduQb ++ rowsCmpuEqQb ++ rowsAbsqSPh ++ rowsShllQb ++ rowsAdduhQb ++ rowsDpaWPh ++ rowsOther.take 3 ++
    rowsExtrW ++ rowsOther.drop 3

theorem mem_rowsByConstructor {r : OpcodeRow} : r ∈ rowsByConstructor ↔ r ∈ opcodeRows := by
  have hother : r ∈ rowsOther ↔ r ∈ rowsOther.take 3 ∨ r ∈ rowsOther.drop 3 := by
    rw [← List.mem_append, List.take_append_drop]
  simp only [rowsByConstructor, opcodeRows, List.mem_append, hother]
  tauto

/-- The row of an instruction, by the place of its constructor. -/
def Instr.row? (i : Instr) : Option OpcodeRow := rowsByConstructor[i.ctorIdx]?

theorem Instr.mem_of_row? {i : Instr} {r : OpcodeRow} (h : i.row? = some r) : r ∈ opcodeRows :=
  mem_rowsByConstructor.mp (List.mem_of_getElem? h)

/-- Every instruction has a row, with its mnemonic and tag, and the row accepts its encoding. -/
theorem exists_row_accepts_encode {i : Instr} (h : i.wellFormed = true) : ∃ r, i.row? = some r ∧
    encode i &&& r.mask = r.pattern ∧ r.mnemonic = i.mnemonic ∧ r.tag = i.isaTag := by
  cases i with
  | shllPh _ _ n | shraPh _ _ n | shllSPh _ _ n | shraRPh _ _ n | shrlPh _ _ n =>
    have hn : n < 16 := of_decide_eq_true h
    exact ⟨_, rfl, and_eq_iff_fields.mpr (by simp [encode, high1_ofNat hn]), rfl, rfl⟩
  | shllQb _ _ n | shrlQb _ _ n | shraQb _ _ n | shraRQb _ _ n =>
    have hn : n < 8 := of_decide_eq_true h
    exact ⟨_, rfl, and_eq_iff_fields.mpr (by simp [encode, high2_ofNat hn]), rfl, rfl⟩
  | balign _ _ n =>
    have hn : n < 4 := of_decide_eq_true h
    exact ⟨_, rfl, and_eq_iff_fields.mpr (by simp [encode, high3_ofNat hn]), rfl, rfl⟩
  | _ => exact ⟨_, rfl, and_eq_iff_fields.mpr (by simp [encode]), rfl, rfl⟩

/-! ### The instructions of a row -/

/-- Every word the row accepts decodes to an instruction of that row. -/
def OpcodeRow.Decodes (r : OpcodeRow) : Prop :=
  ∀ w, w &&& r.mask = r.pattern → ∃ i, decodeWord w = .ok i ∧ i.row? = some r

/-- A row that fixes bits 31..26 and 10..0, from the arm of the decoder these select. -/
theorem OpcodeRow.Decodes.of_arm {r : OpcodeRow} (hop : fieldOp r.mask = 0b111111#6)
    (hd : fieldD r.mask = 0b11111#5) (hf : fieldF r.mask = 0b111111#6)
    (h : ∀ a b c, a &&& fieldA r.mask = fieldA r.pattern ∧ b &&& fieldB r.mask = fieldB r.pattern ∧
        c &&& fieldC r.mask = fieldC r.pattern →
      ∃ i, decodeFields (fieldOp r.pattern) a b c (fieldD r.pattern) (fieldF r.pattern) = .ok i ∧ i.row? = some r) :
    r.Decodes := by
  intro w hw
  obtain ⟨hwop, ha, hb, hc, hwd, hwf⟩ := and_eq_iff_fields.mp hw
  rw [hop, and_mask6] at hwop
  rw [hd, and_mask5] at hwd
  rw [hf, and_mask6] at hwf
  rw [decodeWord, hwop, hwd, hwf]
  exact h _ _ _ ⟨ha, hb, hc⟩

/-- A row that fixes bits 31..16. -/
theorem OpcodeRow.Decodes.of_arm_regimm {r : OpcodeRow} (hop : fieldOp r.mask = 0b111111#6)
    (ha : fieldA r.mask = 0b11111#5) (hb : fieldB r.mask = 0b11111#5)
    (h : ∀ c d f, ∃ i, decodeFields (fieldOp r.pattern) (fieldA r.pattern) (fieldB r.pattern) c d f = .ok i ∧
      i.row? = some r) : r.Decodes := by
  intro w hw
  obtain ⟨hwop, hwa, hwb, -⟩ := and_eq_iff_fields.mp hw
  rw [hop, and_mask6] at hwop
  rw [ha, and_mask5] at hwa
  rw [hb, and_mask5] at hwb
  rw [decodeWord, hwop, hwa, hwb]
  exact h ..

theorem decodes_of_mem_rowsAdduQb : ∀ r ∈ rowsAdduQb, r.Decodes := by
  simp only [rowsAdduQb, List.forall_mem_cons, List.not_mem_nil, false_implies, implies_true, and_true]
  refine ⟨?_, ?_, ?_, ?_, ?_, ?_, ?_, ?_, ?_, ?_, ?_, ?_, ?_, ?_, ?_, ?_, ?_, ?_, ?_, ?_, ?_, ?_, ?_, ?radduWQb⟩
  case radduWQb => exact .of_arm rfl rfl rfl fun _ _ _ h => ⟨_, zeroFields_of (by simpa using h) _, rfl⟩
  all_goals exact .of_arm rfl rfl rfl fun _ _ _ _ => ⟨_, rfl, rfl⟩

theorem decodes_of_mem_rowsCmpuEqQb : ∀ r ∈ rowsCmpuEqQb, r.Decodes := by
  simp only [rowsCmpuEqQb, List.forall_mem_cons, List.not_mem_nil, false_implies, implies_true, and_true]
  refine ⟨?cmpuEqQb, ?cmpuLtQb, ?cmpuLeQb, ?_, ?_, ?_, ?_, ?cmpEqPh, ?cmpLtPh, ?cmpLePh, ?_, ?_, ?_, ?_, ?_, ?_, ?_,
    ?_, ?_, ?_, ?_, ?_⟩
  -- the compares without a destination
  case cmpuEqQb | cmpuLtQb | cmpuLeQb | cmpEqPh | cmpLtPh | cmpLePh =>
    exact .of_arm rfl rfl rfl fun _ _ _ h => ⟨_, zeroFields_of (by simpa using h) _, rfl⟩
  all_goals exact .of_arm rfl rfl rfl fun _ _ _ _ => ⟨_, rfl, rfl⟩

theorem decodes_of_mem_rowsAbsqSPh : ∀ r ∈ rowsAbsqSPh, r.Decodes := by
  simp only [rowsAbsqSPh, List.forall_mem_cons, List.not_mem_nil, false_implies, implies_true, and_true]
  refine ⟨?_, ?_, ?_, ?_, ?_, ?_, ?_, ?_, ?replPh, ?_, ?_, ?_, ?_, ?_, ?_, ?_, ?_, ?_⟩
  case replPh => exact .of_arm rfl rfl rfl fun _ _ _ _ => ⟨_, rfl, rfl⟩
  all_goals exact .of_arm rfl rfl rfl fun _ _ _ h => ⟨_, zeroFields_of (by simpa using h) _, rfl⟩

theorem decodes_of_mem_rowsShllQb : ∀ r ∈ rowsShllQb, r.Decodes := by
  simp only [rowsShllQb, List.forall_mem_cons, List.not_mem_nil, false_implies, implies_true, and_true]
  refine ⟨?shllQb, ?shrlQb, ?_, ?_, ?shraQb, ?shraRQb, ?_, ?_, ?shllPh, ?shraPh, ?_, ?_, ?shllSPh, ?shraRPh, ?_, ?_,
    ?_, ?_, ?_, ?_, ?shrlPh, ?_⟩
  -- an amount of three or four bits
  case shllQb | shrlQb | shraQb | shraRQb | shllPh | shraPh | shllSPh | shraRPh | shrlPh =>
    exact .of_arm rfl rfl rfl fun _ _ _ h => ⟨_, zeroFields_of (by simpa using h) _, rfl⟩
  all_goals exact .of_arm rfl rfl rfl fun _ _ _ _ => ⟨_, rfl, rfl⟩

theorem decodes_of_mem_rowsAdduhQb : ∀ r ∈ rowsAdduhQb, r.Decodes := by
  intro r hr
  fin_cases hr
  all_goals exact .of_arm rfl rfl rfl fun _ _ _ _ => ⟨_, rfl, rfl⟩

theorem decodes_of_mem_rowsDpaWPh : ∀ r ∈ rowsDpaWPh, r.Decodes := by
  intro r hr
  fin_cases hr
  all_goals exact .of_arm rfl rfl rfl fun _ _ _ h => ⟨_, zeroFields_of (by simpa using h) _, rfl⟩

theorem decodes_of_mem_rowsExtrW : ∀ r ∈ rowsExtrW, r.Decodes := by
  simp only [rowsExtrW, List.forall_mem_cons, List.not_mem_nil, false_implies, implies_true, and_true]
  refine ⟨?_, ?_, ?_, ?_, ?_, ?_, ?_, ?_, ?_, ?_, ?_, ?_, ?rddsp, ?wrdsp, ?_, ?_, ?_⟩
  case rddsp | wrdsp => exact .of_arm rfl rfl rfl fun _ _ _ _ => ⟨_, rfl, rfl⟩
  all_goals exact .of_arm rfl rfl rfl fun _ _ _ h => ⟨_, zeroFields_of (by simpa using h) _, rfl⟩

theorem decodes_of_mem_rowsOther : ∀ r ∈ rowsOther, r.Decodes := by
  simp only [rowsOther, List.forall_mem_cons, List.not_mem_nil, false_implies, implies_true, and_true]
  refine ⟨?append, ?prepend, ?_, ?lwx, ?lhx, ?lbux, ?ldx, ?_, ?bposge32, ?bposge32c, ?_, ?_, ?_, ?_, ?_, ?_, ?_, ?_,
    ?_, ?_⟩
  -- APPEND, PREPEND and the loads
  case append | prepend | lwx | lhx | lbux | ldx => exact .of_arm rfl rfl rfl fun _ _ _ _ => ⟨_, rfl, rfl⟩
  -- the branches
  case bposge32 | bposge32c => exact .of_arm_regimm rfl rfl rfl fun _ _ _ => ⟨_, rfl, rfl⟩
  all_goals exact .of_arm rfl rfl rfl fun _ _ _ h => ⟨_, zeroFields_of (by simpa using h) _, rfl⟩

theorem decodes_of_mem_opcodeRows {r : OpcodeRow} (h : r ∈ opcodeRows) : r.Decodes := by
  simp only [opcodeRows, List.mem_append] at h
  rcases h with ((((((h | h) | h) | h) | h) | h) | h) | h
  · exact decodes_of_mem_rowsAdduQb r h
  · exact decodes_of_mem_rowsCmpuEqQb r h
  · exact decodes_of_mem_rowsAbsqSPh r h
  · exact decodes_of_mem_rowsShllQb r h
  · exact decodes_of_mem_rowsAdduhQb r h
  · exact decodes_of_mem_rowsDpaWPh r h
  · exact decodes_of_mem_rowsExtrW r h
  · exact decodes_of_mem_rowsOther r h

/-! ### The table -/

/-- A word that decodes matches the row of its instruction. -/
theorem exists_row_of_decodeWord {w : Word} {i : Instr} (h : decodeWord w = .ok i) :
    ∃ r ∈ opcodeRows, w &&& r.mask = r.pattern ∧ r.mnemonic = i.mnemonic ∧ r.tag = i.isaTag := by
  obtain ⟨hwf, rfl⟩ := inverts_decodeWord w i h
  obtain ⟨r, hr, hmatch⟩ := exists_row_accepts_encode hwf
  exact ⟨r, i.mem_of_row? hr, hmatch⟩

/-- A word matches at most one row, that of the one instruction it decodes to. -/
theorem row_unique {w : Word} {r q : OpcodeRow} (hr : r ∈ opcodeRows) (hq : q ∈ opcodeRows)
    (hwr : w &&& r.mask = r.pattern) (hwq : w &&& q.mask = q.pattern) : r = q := by
  obtain ⟨i, hi, hir⟩ := decodes_of_mem_opcodeRows hr w hwr
  obtain ⟨j, hj, hjq⟩ := decodes_of_mem_opcodeRows hq w hwq
  cases hi.symm.trans hj
  exact Option.some.inj (hir.symm.trans hjq)

/-- Settles O3: the rows are the arms of the decoder that answer, one row for each instruction. -/
theorem decoderFollowsTheOpcodeTable : Obligations.DecoderFollowsTheOpcodeTable := by
  refine ⟨fun w i => exists_row_of_decodeWord, fun w r hr hw => ?_, fun w r q => row_unique⟩
  obtain ⟨i, hi, -⟩ := decodes_of_mem_opcodeRows hr w hw
  exact ⟨i, hi⟩

end Sys2Proof
end

section
/-!
General registers (`10_state.md` R21, R22; `30_encoding.md` R91): the writes keep to the table of the destinations, and
register 0 reads zero whatever is written.
-/

namespace Sys2Proof.Machine

theorem Writes.gprs_frame {i : Instr} {s u : State} {m : Option Bool} (h : Writes i s m u) :
    SameGprsBut (destGprs i) s u := by
  induction h with
  | nothing => exact fun _ _ => rfl
  | hiLo _ _ ih | flag _ _ _ _ ih | pos _ _ ih | carry _ _ ih | efi _ _ ih | ccond _ _ ih | control _ _ _ ih
  | read _ ih | unread _ ih | drawn _ ih => exact ih
  | gpr hr _ ih =>
    intro q hq
    have hne : q ≠ _ := fun e => hq (e ▸ hr)
    rw [State.gpr_setGpr, if_neg (fun hqr => hne hqr.1)]
    exact ih q hq

/-- Settles O18: the writes keep to the table of the destinations. -/
theorem generalRegisterFrame : Obligations.GeneralRegisterFrame := by
  intro i s t h
  obtain ⟨u, hw, ht⟩ := exec_writes h
  rw [ht]
  exact ⟨hw.gprs_frame, State.gpr_zero _⟩

end Sys2Proof.Machine
end

section
/-!
One step from the bytes at `pc` (`30_encoding.md` R93; `20_memory.md` R56): the word a fetch reads is the word the bytes
there make, in the byte order of the machine.
-/

namespace Sys2Proof.Machine

/-- Four bytes that decode are one word that decodes. -/
theorem decodeBytes_word_eq_ok {be : Bool} {b0 b1 b2 b3 : Byte} {i : Instr} {rest : List Byte}
    (h : decodeBytes be [b0, b1, b2, b3] = .ok (i, rest)) : decodeWord (wordOfBytes be b0 b1 b2 b3) = .ok i := by
  cases hd : decodeWord (wordOfBytes be b0 b1 b2 b3) with
  | ok j =>
    simp only [decodeBytes, hd] at h
    cases h
    rfl
  | error e =>
    simp only [decodeBytes, hd] at h
    cases h

/-- Settles O5: an aligned fetch reads the word of the four bytes, and the step runs what it decodes to. -/
theorem stepRunsTheDecodedInstruction : Obligations.StepRunsTheDecodedInstruction := by
  intro s i hpc h
  refine step_of_fetch (fetch_of_aligned hpc) ?_
  rw [State.read32_eq_wordOfBytes]
  exact decodeBytes_word_eq_ok h

end Sys2Proof.Machine
end

section
/-!
Exact integers behind the helpers of the additions and subtractions (`40_arith_add_sub.md` R101 to R104). Each helper
works on an intermediate of `N + 1` bits; that is the exact sum or difference, and what a helper makes of it (wrapped,
saturated, halved) is said here once, for every width.
-/

namespace Sys2Proof.Machine

/-! ### Ranges -/

theorem fitsSigned_eq_true_iff {n : Nat} {x : Int} :
    fitsSigned n x = true ↔ -2 ^ (n - 1) ≤ x ∧ x ≤ 2 ^ (n - 1) - 1 := by
  simp [fitsSigned]

theorem fitsSigned_eq_false_iff {n : Nat} {x : Int} :
    fitsSigned n x = false ↔ x < -2 ^ (n - 1) ∨ 2 ^ (n - 1) - 1 < x := by
  rw [Bool.eq_false_iff, Ne, fitsSigned_eq_true_iff, not_and_or, not_le, not_le]

theorem fitsUnsigned_eq_true_iff {n : Nat} {x : Int} : fitsUnsigned n x = true ↔ 0 ≤ x ∧ x ≤ 2 ^ n - 1 := by
  simp [fitsUnsigned]

theorem fitsUnsigned_eq_false_iff {n : Nat} {x : Int} : fitsUnsigned n x = false ↔ x < 0 ∨ 2 ^ n - 1 < x := by
  rw [Bool.eq_false_iff, Ne, fitsUnsigned_eq_true_iff, not_and_or, not_le, not_le]

theorem uint_nonneg {n : Nat} (a : BitVec n) : 0 ≤ uint a := Int.natCast_nonneg _

theorem uint_lt {n : Nat} (a : BitVec n) : uint a < 2 ^ n := by
  have := a.isLt
  unfold uint
  exact_mod_cast this

theorem ofInt_uint {n : Nat} (m : Nat) (a : BitVec n) : BitVec.ofInt m (uint a) = a.setWidth m := by
  rw [uint, BitVec.ofInt_natCast, BitVec.ofNat_toNat]

theorem ofInt_sub {n : Nat} (x y : Int) : BitVec.ofInt n (x - y) = BitVec.ofInt n x - BitVec.ofInt n y := by
  rw [Int.sub_eq_add_neg, BitVec.ofInt_add, BitVec.ofInt_neg, BitVec.sub_eq_add_neg]

/-- The low `n` bits of a representative are those of the integer. -/
theorem setWidth_ofInt {m n : Nat} (h : n ≤ m) (x : Int) : (BitVec.ofInt m x).setWidth n = BitVec.ofInt n x := by
  rw [← BitVec.signExtend_eq_setWidth_of_le _ h]
  apply BitVec.eq_of_toInt_eq
  rw [BitVec.toInt_signExtend_eq_toInt_bmod_of_le _ h, BitVec.toInt_ofInt, BitVec.toInt_ofInt]
  exact Int.bmod_bmod_of_dvd (Nat.pow_dvd_pow 2 h)

/-! ### Saturation -/

theorem saturateSigned_of_fits {n : Nat} {x : Int} (h : fitsSigned n x = true) :
    saturateSigned n x = (BitVec.ofInt n x, false) := by
  obtain ⟨hlo, hhi⟩ := fitsSigned_eq_true_iff.mp h
  rw [saturateSigned, h, clampSigned, min_eq_right hhi, max_eq_right hlo]
  rfl

theorem saturateSigned_of_lt {n : Nat} {x : Int} (h : x < -2 ^ (n - 1)) :
    saturateSigned n x = (BitVec.intMin n, true) := by
  have hf : fitsSigned n x = false := fitsSigned_eq_false_iff.mpr (.inl h)
  rw [saturateSigned, hf, clampSigned, max_eq_left ((min_le_right _ _).trans h.le), ← BitVec.intMin_eq_neg_two_pow]
  rfl

theorem saturateSigned_of_gt {n : Nat} {x : Int} (h : 2 ^ (n - 1) - 1 < x) :
    saturateSigned n x = (BitVec.intMax n, true) := by
  have hf : fitsSigned n x = false := fitsSigned_eq_false_iff.mpr (.inr h)
  have hp : (0 : Int) < 2 ^ (n - 1) := by positivity
  rw [saturateSigned, hf, clampSigned, min_eq_left h.le, max_eq_right (by omega), ← BitVec.toInt_intMax,
    BitVec.ofInt_toInt]
  rfl

theorem saturateUnsigned_of_fits {n : Nat} {x : Int} (h : fitsUnsigned n x = true) :
    saturateUnsigned n x = (BitVec.ofInt n x, false) := by
  obtain ⟨hlo, hhi⟩ := fitsUnsigned_eq_true_iff.mp h
  rw [saturateUnsigned, h, clampUnsigned, min_eq_right hhi, max_eq_right hlo]
  rfl

theorem saturateUnsigned_of_neg {n : Nat} {x : Int} (h : x < 0) : saturateUnsigned n x = (0#n, true) := by
  have hf : fitsUnsigned n x = false := fitsUnsigned_eq_false_iff.mpr (.inl h)
  rw [saturateUnsigned, hf, clampUnsigned, max_eq_left ((min_le_right _ _).trans h.le)]
  rfl

theorem saturateUnsigned_of_gt {n : Nat} {x : Int} (h : 2 ^ n - 1 < x) :
    saturateUnsigned n x = (BitVec.allOnes n, true) := by
  have hf : fitsUnsigned n x = false := fitsUnsigned_eq_false_iff.mpr (.inr h)
  have hp := Nat.two_pow_pos n
  have hones : uint (BitVec.allOnes n) = 2 ^ n - 1 := by
    rw [uint, BitVec.toNat_allOnes]
    push_cast [hp]
    rfl
  rw [saturateUnsigned, hf, clampUnsigned, min_eq_left h.le, ← hones, max_eq_right (uint_nonneg _), ofInt_uint,
    BitVec.setWidth_eq]
  rfl

/-! ### Absolute value -/

/-- `satAbs_N` (R101) saturates the exact absolute value: only that of the minimum does not fit. -/
theorem satAbs_eq {n : Nat} (hn : 0 < n) : @satAbs n = fun a => saturateSigned n |a.toInt| := by
  funext a
  have hlo := a.le_toInt
  have hhi := BitVec.toInt_lt (x := a)
  unfold satAbs
  split
  next hmin =>
    have hint : a.toInt = -2 ^ (n - 1) := hmin ▸ BitVec.toInt_intMin_of_pos hn
    exact (saturateSigned_of_gt (by rw [hint, abs_neg, abs_of_nonneg (by positivity)]; omega)).symm
  next hmin =>
    have hne : a.toInt ≠ -2 ^ (n - 1) := by
      rw [← BitVec.toInt_intMin_of_pos hn]
      exact BitVec.toInt_ne.mpr hmin
    have hfits : fitsSigned n |a.toInt| = true :=
      fitsSigned_eq_true_iff.mpr ⟨by have := abs_nonneg a.toInt; omega, abs_le.mpr (by omega)⟩
    rw [saturateSigned_of_fits hfits, BitVec.msb_eq_toInt]
    split
    next hneg => rw [abs_of_neg (of_decide_eq_true hneg), BitVec.ofInt_neg, BitVec.ofInt_toInt]
    next hneg => rw [abs_of_nonneg (by simpa using hneg), BitVec.ofInt_toInt]

/-! ### The intermediate -/

/-- The exact sum or difference. -/
def AddOp.exact : AddOp → Int → Int → Int
  | .add, x, y => x + y
  | .sub, x, y => x - y

theorem AddOp.apply_ofInt {n : Nat} (op : AddOp) (x y : Int) :
    op.apply (BitVec.ofInt n x) (BitVec.ofInt n y) = BitVec.ofInt n (op.exact x y) := by
  cases op with
  | add => exact (BitVec.ofInt_add x y).symm
  | sub => exact (ofInt_sub x y).symm

theorem wideS_eq_ofInt {n : Nat} (op : AddOp) (a b : BitVec n) :
    wideS op a b = BitVec.ofInt (n + 1) (op.exact a.toInt b.toInt) :=
  op.apply_ofInt a.toInt b.toInt

theorem wideU_eq_ofInt {n : Nat} (op : AddOp) (a b : BitVec n) :
    wideU op a b = BitVec.ofInt (n + 1) (op.exact (uint a) (uint b)) := by
  rw [wideU, ← op.apply_ofInt, ofInt_uint, ofInt_uint]

/-- One bit more holds every signed sum and difference. -/
theorem toInt_wideS {n : Nat} (op : AddOp) (a b : BitVec n) : (wideS op a b).toInt = op.exact a.toInt b.toInt := by
  have ha := BitVec.le_two_mul_toInt (x := a)
  have ha' := BitVec.two_mul_toInt_lt (x := a)
  have hb := BitVec.le_two_mul_toInt (x := b)
  have hb' := BitVec.two_mul_toInt_lt (x := b)
  have hx : -2 ^ n ≤ op.exact a.toInt b.toInt ∧ op.exact a.toInt b.toInt < 2 ^ n := by
    cases op <;> simp only [AddOp.exact] <;> omega
  rw [wideS_eq_ofInt]
  exact BitVec.toInt_ofInt_eq_self (Nat.succ_pos n) hx.1 hx.2

/-! ### Signed results -/

/-- The top two bits of the intermediate differ exactly where its value does not fit in one bit less. -/
theorem overflows_eq {n : Nat} (hn : 0 < n) (t : BitVec (n + 1)) : overflows t = !fitsSigned n t.toInt := by
  have hp : 2 ^ n = 2 * 2 ^ (n - 1) := (mul_pow_sub_one hn.ne' 2).symm
  have hcast : ((2 ^ (n - 1) : Nat) : Int) = 2 ^ (n - 1) := Int.natCast_pow 2 (n - 1)
  have ht : t.toNat < 2 * 2 ^ n := Nat.pow_succ' ▸ t.isLt
  have htop : t.getLsbD n = decide (2 ^ n ≤ t.toNat) := t.getLsbD_last
  have hnext : t.getLsbD (n - 1) = decide (2 ^ (n - 1) ≤ t.toNat % 2 ^ n) := by
    rw [← BitVec.toNat_setWidth, ← BitVec.getLsbD_last, BitVec.getLsbD_setWidth, decide_eq_true (by omega),
      Bool.true_and]
  have hval := t.toInt_eq_toNat_cond
  rw [Nat.pow_succ'] at hval
  rw [overflows, htop, hnext, Bool.eq_iff_iff, bne_iff_ne, Bool.not_eq_true', fitsSigned_eq_false_iff, Ne,
    decide_eq_decide]
  by_cases hlow : t.toNat < 2 ^ n
  · rw [if_pos (by omega)] at hval
    rw [Nat.mod_eq_of_lt hlow]
    omega
  · rw [if_neg (by omega)] at hval
    rw [Nat.mod_eq_sub_mod (by omega), Nat.mod_eq_of_lt (by omega)]
    omega

theorem wrapOf_eq {n : Nat} (hn : 0 < n) (t : BitVec (n + 1)) : wrapOf t = wrapSigned n t.toInt := by
  rw [wrapOf, wrapSigned, overflows_eq hn, ← BitVec.signExtend_eq_setWidth_of_le _ (Nat.le_succ n)]
  rfl

/-- Where the intermediate does not fit, its sign tells the bound it has passed. -/
theorem satOf_eq {n : Nat} (hn : 0 < n) (t : BitVec (n + 1)) : satOf t = saturateSigned n t.toInt := by
  have htop : t.getLsbD n = decide (t.toInt < 0) := (t.msb_eq_getLsbD_last).symm.trans BitVec.msb_eq_toInt
  have hp : (0 : Int) < 2 ^ (n - 1) := by positivity
  rw [satOf, overflows_eq hn, nearestBound, htop]
  cases hf : fitsSigned n t.toInt with
  | true =>
    rw [saturateSigned_of_fits hf, ← BitVec.signExtend_eq_setWidth_of_le _ (Nat.le_succ n)]
    rfl
  | false =>
    rw [fitsSigned_eq_false_iff] at hf
    by_cases hneg : t.toInt < 0
    · rw [saturateSigned_of_lt (by omega), decide_eq_true hneg]
      rfl
    · rw [saturateSigned_of_gt (by omega), decide_eq_false hneg]
      rfl

/-- `wrapS_N` (R102) in exact integers. -/
theorem wrapS_eq {n : Nat} (hn : 0 < n) (op : AddOp) :
    @wrapS n op = fun a b => wrapSigned n (op.exact a.toInt b.toInt) := by
  funext a b
  rw [wrapS, wrapOf_eq hn, toInt_wideS]

/-- `satS_N` (R102) in exact integers. -/
theorem satS_eq {n : Nat} (hn : 0 < n) (op : AddOp) :
    @satS n op = fun a b => saturateSigned n (op.exact a.toInt b.toInt) := by
  funext a b
  rw [satS, satOf_eq hn, toInt_wideS]

/-! ### Unsigned results -/

/-- The top bit of the intermediate is the carry or the borrow. -/
theorem wideU_top {n : Nat} (op : AddOp) (a b : BitVec n) :
    (wideU op a b).getLsbD n = !fitsUnsigned n (op.exact (uint a) (uint b)) := by
  have ha := uint_nonneg a
  have ha' := uint_lt a
  have hb := uint_nonneg b
  have hb' := uint_lt b
  have hx : -2 ^ n < op.exact (uint a) (uint b) ∧ op.exact (uint a) (uint b) < 2 * 2 ^ n := by
    cases op <;> simp only [AddOp.exact] <;> omega
  have hcast : ((2 ^ n : Nat) : Int) = 2 ^ n := Int.natCast_pow 2 n
  have htop : (wideU op a b).getLsbD n = decide (2 ^ n ≤ (wideU op a b).toNat) := (wideU op a b).getLsbD_last
  rw [htop, wideU_eq_ofInt, BitVec.toNat_ofInt, Nat.pow_succ', Bool.eq_iff_iff, decide_eq_true_iff,
    Bool.not_eq_true', fitsUnsigned_eq_false_iff]
  by_cases hneg : op.exact (uint a) (uint b) < 0
  · rw [← Int.add_emod_right, Int.emod_eq_of_lt (by omega) (by omega)]
    omega
  · rw [Int.emod_eq_of_lt (by omega) (by omega)]
    omega

theorem wideU_low {n : Nat} (op : AddOp) (a b : BitVec n) :
    (wideU op a b).setWidth n = BitVec.ofInt n (op.exact (uint a) (uint b)) := by
  rw [wideU_eq_ofInt, setWidth_ofInt (Nat.le_succ n)]

/-- `wrapU_N` (R103): the low bits of the intermediate, and its carry. -/
theorem wrapU_eq {n : Nat} (op : AddOp) :
    @wrapU n op = fun a b => wrapUnsigned n (op.exact (uint a) (uint b)) := by
  funext a b
  rw [wrapU, wrapUnsigned, wideU_top, wideU_low]

/-- `satU_N` (R103): a sum can only be too large, a difference only negative. -/
theorem satU_eq {n : Nat} (op : AddOp) :
    @satU n op = fun a b => saturateUnsigned n (op.exact (uint a) (uint b)) := by
  funext a b
  have ha := uint_nonneg a
  have ha' := uint_lt a
  have hb := uint_nonneg b
  have hb' := uint_lt b
  unfold satU
  rw [wideU_top, wideU_low]
  cases hf : fitsUnsigned n (op.exact (uint a) (uint b)) with
  | true => exact (saturateUnsigned_of_fits hf).symm
  | false =>
    rw [fitsUnsigned_eq_false_iff] at hf
    cases op with
    | add => exact (saturateUnsigned_of_gt (by simp only [AddOp.exact] at hf ⊢; omega)).symm
    | sub => exact (saturateUnsigned_of_neg (by simp only [AddOp.exact] at hf ⊢; omega)).symm

/-! ### Halved results -/

/-- Halving an integer halves its remainder. -/
theorem ediv_two_emod (x : Int) {p : Int} (hp : 0 < p) : x / 2 % p = x % (2 * p) / 2 := by
  have hx := Int.mul_ediv_add_emod x (2 * p)
  have hlo := Int.emod_nonneg x (b := 2 * p) (by omega)
  have hhi := Int.emod_lt_of_pos x (b := 2 * p) (by omega)
  rw [mul_assoc] at hx
  have hhalf : x / 2 = x % (2 * p) / 2 + p * (x / (2 * p)) := by omega
  rw [hhalf, Int.add_mul_emod_self_left, Int.emod_eq_of_lt (by omega) (by omega)]

/-- Bits `n` down to 1 of a representative in `n + 1` bits are those of half the integer. -/
theorem extractLsb'_one_ofInt (n : Nat) (x : Int) :
    (BitVec.ofInt (n + 1) x).extractLsb' 1 n = BitVec.ofInt n (x / 2) := by
  have hp := Nat.two_pow_pos n
  have hlo := Int.emod_nonneg x (b := 2 * (2 ^ n : Nat)) (by omega)
  have hhi := Int.emod_lt_of_pos x (b := 2 * (2 ^ n : Nat)) (by omega)
  apply BitVec.eq_of_toNat_eq
  rw [BitVec.extractLsb'_toNat, BitVec.toNat_ofInt, BitVec.toNat_ofInt, Nat.shiftRight_eq_div_pow, Nat.pow_succ',
    Nat.cast_mul, Nat.cast_two, ediv_two_emod x (by omega), Nat.mod_eq_of_lt (by omega)]
  omega

/-- Half of an intermediate is half of the integer it stands for, rounded down (R104). -/
theorem halve_ofInt {n : Nat} (rnd : Bool) (x : Int) :
    halve rnd (BitVec.ofInt (n + 1) x) = BitVec.ofInt n ((x + rnd.toInt) / 2) := by
  have hr : (BitVec.ofBool rnd).setWidth (n + 1) = BitVec.ofInt (n + 1) rnd.toInt := by
    cases rnd <;> simp
  rw [halve, hr, ← BitVec.ofInt_add, extractLsb'_one_ofInt]

/-- `halfS_N` (R104) in exact integers. -/
theorem halfS_eq {n : Nat} (op : AddOp) (rnd : Bool) :
    @halfS n op rnd = fun a b => BitVec.ofInt n ((op.exact a.toInt b.toInt + rnd.toInt) / 2) := by
  funext a b
  rw [halfS, wideS_eq_ofInt, halve_ofInt]

/-- `halfU_8` (R104) in exact integers. -/
theorem halfU_eq {n : Nat} (op : AddOp) (rnd : Bool) :
    @halfU n op rnd = fun a b => BitVec.ofInt n ((op.exact (uint a) (uint b) + rnd.toInt) / 2) := by
  funext a b
  rw [halfU, wideU_eq_ofInt, halve_ofInt]

/-! ### Carries and reductions -/

theorem toNat_addCarryOut (a b : Word) : (addCarryOut a b).toNat = a.toNat + b.toNat := by
  have ha := a.isLt
  have hb := b.isLt
  unfold addCarryOut wideU AddOp.apply
  rw [BitVec.toNat_add, BitVec.toNat_setWidth, BitVec.toNat_setWidth]
  omega

theorem addCarryOut_carry (a b : Word) :
    (addCarryOut a b).extractLsb' 32 1 = BitVec.ofNat 1 ((a.toNat + b.toNat) / 2 ^ 32) := by
  apply BitVec.eq_of_toNat_eq
  rw [BitVec.extractLsb'_toNat, toNat_addCarryOut, Nat.shiftRight_eq_div_pow, BitVec.toNat_ofNat]

theorem addCarryOut_sum (a b : Word) : (addCarryOut a b).extractLsb' 0 32 = BitVec.ofNat 32 (a.toNat + b.toNat) := by
  apply BitVec.eq_of_toNat_eq
  rw [BitVec.extractLsb'_toNat, toNat_addCarryOut, Nat.shiftRight_zero, BitVec.toNat_ofNat]

/-- 33 bits hold the sum with the carry in. -/
theorem toInt_addCarryIn (a b : Word) (c : BitVec 1) :
    (addCarryIn a b c).toInt = a.toInt + b.toInt + uint c := by
  have ha := a.le_toInt
  have ha' := BitVec.toInt_lt (x := a)
  have hb := b.le_toInt
  have hb' := BitVec.toInt_lt (x := b)
  have hc := uint_nonneg c
  have hc' := uint_lt c
  rw [addCarryIn, wideS_eq_ofInt, ← ofInt_uint, ← BitVec.ofInt_add, AddOp.exact]
  exact BitVec.toInt_ofInt_eq_self (by decide) (by omega) (by omega)

/-- MODSUB (R123) in integers: the low word of `rs` decides. -/
theorem modSub_eq (rs rt : DWord) :
    modSub rs rt = if rs.toNat % 2 ^ 32 = 0 then BitVec.ofNat 64 (rt.toNat / 2 ^ 8 % 2 ^ 16)
      else BitVec.ofInt 64 (rs.toInt - rt.toNat % 2 ^ 8) := by
  have hzero : rs.extractLsb' 0 32 = 0#32 ↔ rs.toNat % 2 ^ 32 = 0 := by
    rw [BitVec.toNat_eq, BitVec.extractLsb'_toNat, Nat.shiftRight_zero]
    rfl
  unfold modSub
  split
  next hlow =>
    rw [if_pos (hzero.mp hlow), ← BitVec.ofNat_toNat, BitVec.extractLsb'_toNat, Nat.shiftRight_eq_div_pow]
  next hlow =>
    rw [if_neg (mt hzero.mpr hlow), ofInt_sub, BitVec.ofInt_toInt, ← BitVec.ofNat_toNat, BitVec.extractLsb'_toNat,
      Nat.shiftRight_zero]
    rfl

/-- Ten bits hold the sum of four bytes (R124). -/
theorem toNat_sumBytes (w : Word) :
    (sumBytes w).toNat = (byteD w).toNat + (byteC w).toNat + (byteB w).toNat + (byteA w).toNat := by
  have hd := (byteD w).isLt
  have hc := (byteC w).isLt
  have hb := (byteB w).isLt
  have ha := (byteA w).isLt
  simp only [sumBytes, BitVec.toNat_add, BitVec.toNat_setWidth]
  omega

end Sys2Proof.Machine
end

section
/-!
The instructions of `40_arith_add_sub.md`: each is ordinary, and its effect in exact integers follows from its helper's.
-/

namespace Sys2Proof.Machine

/-- An available instruction in the frame of `ordinary` answers its effect, in whatever form the effect is given. -/
theorem exec_of_ordinary {i : Instr} {s effect after : State} (he : exec i s = ordinary i.isaTag i s effect)
    (ha : effect = after) (h : Available i s) : exec i s = .next after.advance := by
  rw [he, ordinary_of_available h, ha]

/-- Settles O29: the helper saturates the exact absolute value. -/
theorem absoluteValueResults : Obligations.AbsoluteValueResults := by
  intro rd rt s
  refine ⟨exec_of_ordinary rfl ?_, exec_of_ordinary rfl ?_, exec_of_ordinary rfl ?_⟩ <;>
    rw [satAbs_eq (by decide)]

/-- Settles O30: the 17-bit or 33-bit intermediate is the exact result, and its top two bits say whether that fits. -/
theorem signedAddSubtractResults : Obligations.SignedAddSubtractResults := by
  intro rd rs rt s
  refine ⟨exec_of_ordinary rfl ?_, exec_of_ordinary rfl ?_, exec_of_ordinary rfl ?_, exec_of_ordinary rfl ?_,
    exec_of_ordinary rfl ?_, exec_of_ordinary rfl ?_⟩ <;>
    simp only [wrapS_eq, satS_eq, Nat.ofNat_pos, AddOp.exact]

/-- Settles O31: the top bit of the intermediate is the carry or the borrow. -/
theorem unsignedAddSubtractResults : Obligations.UnsignedAddSubtractResults := by
  intro rd rs rt s
  refine ⟨exec_of_ordinary rfl ?_, exec_of_ordinary rfl ?_, exec_of_ordinary rfl ?_, exec_of_ordinary rfl ?_,
    exec_of_ordinary rfl ?_, exec_of_ordinary rfl ?_, exec_of_ordinary rfl ?_, exec_of_ordinary rfl ?_⟩ <;>
    simp only [wrapU_eq, satU_eq, AddOp.exact]

/-- Settles O32: dropping bit 0 of the intermediate halves the exact result, rounding down. -/
theorem halvingResults : Obligations.HalvingResults := by
  intro rd rs rt s
  refine ⟨exec_of_ordinary rfl ?_, exec_of_ordinary rfl ?_, exec_of_ordinary rfl ?_, exec_of_ordinary rfl ?_,
    exec_of_ordinary rfl ?_, exec_of_ordinary rfl ?_, exec_of_ordinary rfl ?_, exec_of_ordinary rfl ?_,
    exec_of_ordinary rfl ?_, exec_of_ordinary rfl ?_, exec_of_ordinary rfl ?_, exec_of_ordinary rfl ?_⟩ <;>
    simp only [halfS_eq, halfU_eq, AddOp.exact, Bool.toInt_true, Bool.toInt_false, Int.add_zero]

/-- Settles O33: the 33-bit and 10-bit intermediates hold the exact sums; MODSUB by its two cases. -/
theorem carryAndReductionResults : Obligations.CarryAndReductionResults := by
  intro rd rs rt s
  refine ⟨exec_of_ordinary rfl ?_, exec_of_ordinary rfl ?_, exec_of_ordinary rfl ?_, exec_of_ordinary rfl ?_⟩
  · rw [addCarryOut_carry, addCarryOut_sum]
  · rw [wrapOf_eq (by decide), toInt_addCarryIn]
    rfl
  · rw [modSub_eq]
  · rw [← BitVec.ofNat_toNat, toNat_sumBytes]

end Sys2Proof.Machine
end

section
/-!
Splices and bit fields (`41_bit_pack_precision.md` R160, R161, R164, R166): a shifted word joined with one that
fills the bits it freed is a sum by place; INSV's word is said bit by bit.
-/

namespace Sys2Proof.Machine

/-! ### Splices -/

/-- Of a number shifted left by `j`, `w` bits keep only its low `w - j`. -/
theorem ofNat_mod_mul_add {w k j : Nat} (h : k + j = w) (x y : Nat) :
    BitVec.ofNat w (x % 2 ^ k * 2 ^ j + y) = BitVec.ofNat w (x * 2 ^ j + y) := by
  apply BitVec.eq_of_toNat_eq
  rw [BitVec.toNat_ofNat, BitVec.toNat_ofNat, ← Nat.mul_mod_mul_right, ← Nat.pow_add, h, Nat.mod_add_mod]

/-- A word below the bits another was shifted to is added to it. -/
theorem shiftLeft_or_eq_ofNat {k : Nat} (x : Word) {y : Word} (hy : y.toNat < 2 ^ k) :
    x <<< k ||| y = BitVec.ofNat 32 (x.toNat * 2 ^ k + y.toNat) := by
  apply BitVec.eq_of_toNat_eq
  rw [BitVec.toNat_ofNat, ← Nat.shiftLeft_eq, Nat.shiftLeft_add_eq_or_of_lt hy, Nat.or_mod_two_pow,
    Nat.mod_eq_of_lt y.isLt, BitVec.toNat_or, BitVec.toNat_shiftLeft]

theorem toNat_lowBits (x : Word) (k : Nat) : (x &&& ~~~(BitVec.allOnes 32 <<< k)).toNat = x.toNat % 2 ^ k := by
  apply Nat.eq_of_testBit_eq
  intro i
  rw [Nat.testBit_mod_two_pow, BitVec.testBit_toNat, BitVec.testBit_toNat, BitVec.getLsbD_and, BitVec.getLsbD_not,
    BitVec.getLsbD_shiftLeft, BitVec.getLsbD_allOnes]
  by_cases hi : i < 32
  · grind
  · rw [BitVec.getLsbD_of_ge x i (by omega), Bool.false_and, Bool.and_false]

theorem toNat_ushiftRight_lt {k j : Nat} (h : k + j = 32) (x : Word) : (x >>> k).toNat < 2 ^ j := by
  rw [BitVec.toNat_ushiftRight, Nat.shiftRight_eq_div_pow]
  exact Nat.div_lt_of_lt_mul (by rw [← Nat.pow_add, h]; exact x.isLt)

/-- APPEND (R160) as a sum by place. -/
theorem appendWord_eq (rt rs : Word) (sa : Nat) :
    appendWord rt rs sa = BitVec.ofNat 32 (rt.toNat * 2 ^ sa + rs.toNat % 2 ^ sa) := by
  have hlow := toNat_lowBits rs sa
  rw [appendWord, shiftLeft_or_eq_ofNat rt (hlow ▸ Nat.mod_lt _ (Nat.two_pow_pos sa)), hlow]

/-- PREPEND (R164) as a sum by place. -/
theorem prependWord_eq (rt rs : Word) {sa : Nat} (h : sa < 32) :
    prependWord rt rs sa = BitVec.ofNat 32 (rs.toNat % 2 ^ sa * 2 ^ (32 - sa) + rt.toNat / 2 ^ sa) := by
  have hsum : sa + (32 - sa) = 32 := by omega
  rw [prependWord, shiftLeft_or_eq_ofNat rs (toNat_ushiftRight_lt hsum rt), BitVec.toNat_ushiftRight,
    Nat.shiftRight_eq_div_pow, ofNat_mod_mul_add hsum]

/-- BALIGN (R161) as a sum by place. -/
theorem alignWord_eq (rt rs : Word) {bp : Nat} (h : bp < 4) :
    alignWord rt rs bp = BitVec.ofNat 32 (rt.toNat * 2 ^ (8 * bp) + rs.toNat / 2 ^ (32 - 8 * bp)) := by
  have hsub : 8 * (4 - bp) = 32 - 8 * bp := by omega
  have hsum : 32 - 8 * bp + 8 * bp = 32 := by omega
  rw [alignWord, hsub, shiftLeft_or_eq_ofNat rt (toNat_ushiftRight_lt hsum rs), BitVec.toNat_ushiftRight,
    Nat.shiftRight_eq_div_pow]

/-! ### INSV -/

theorem getLsbD_fieldMask {pos size n : Nat} (hs : size ≤ 32) (hn : n < 32) :
    (fieldMask pos size).getLsbD n = decide (pos ≤ n ∧ n < pos + size) := by
  rw [fieldMask, BitVec.getLsbD_shiftLeft, BitVec.getLsbD_ushiftRight, BitVec.getLsbD_allOnes]
  grind

theorem getLsbD_insertWord {pos size n : Nat} (rt rs : Word) (hs : size ≤ 32) (hn : n < 32) :
    (insertWord rt rs pos size).getLsbD n =
      if pos ≤ n ∧ n < pos + size then rs.getLsbD (n - pos) else rt.getLsbD n := by
  rw [insertWord, BitVec.getLsbD_or, BitVec.getLsbD_and, BitVec.getLsbD_and, BitVec.getLsbD_not,
    BitVec.getLsbD_shiftLeft, getLsbD_fieldMask hs hn]
  by_cases h : pos ≤ n ∧ n < pos + size <;> simp [h, hn]

theorem getLsbD_signExtend_ofBool {w k : Nat} (b : Bool) (h : k < w) :
    ((BitVec.ofBool b).signExtend w).getLsbD k = b := by
  rw [BitVec.getLsbD_signExtend, decide_eq_true h, Bool.true_and, BitVec.getLsbD_ofBool, BitVec.msb_ofBool]
  split
  next hk => rw [decide_eq_true (by omega : k = 0), Bool.true_and]
  next => rfl

/-- What INSV writes (R166), bit by bit: above the word, copies of the old bit 31. -/
theorem getLsbD_insertDWord {pos size n : Nat} (rt rs : Word) (hs : size ≤ 32) (hn : n < 64) :
    (insertDWord rt rs pos size).getLsbD n =
      if 32 ≤ n then rt.getLsbD 31
      else if pos ≤ n ∧ n < pos + size then rs.getLsbD (n - pos) else rt.getLsbD n := by
  rw [insertDWord, BitVec.getLsbD_append]
  by_cases h : 32 ≤ n
  · rw [if_neg (by omega), if_pos h, getLsbD_signExtend_ofBool _ (by omega), BitVec.msb_eq_getLsbD_last]
  · rw [if_pos (by omega), if_neg h, getLsbD_insertWord rt rs hs (by omega)]

theorem insertDefined_eq_true_iff {pos size : Nat} :
    insertDefined pos size = true ↔ 0 < size ∧ pos + size ≤ 32 := by
  simp only [insertDefined, Bool.and_eq_true, decide_eq_true_eq]
  omega

/-- The test of R7: a register holds the sign extension of its low word. -/
theorem notWordValue_eq_false_iff (s : State) (r : Reg) :
    notWordValue (s.gpr r) = false ↔ s.gpr r = BitVec.ofInt 64 (s.word r).toInt := by
  rw [notWordValue, decide_eq_false_iff_not, not_not]
  rfl

theorem State.toNat_posLow (s : State) : s.posLow.toNat = s.dspControl.toNat % 2 ^ 6 :=
  toNat_extractLsb'_bottom s.dspControl 6

theorem State.toNat_scount (s : State) : s.scount.toNat = s.dspControl.toNat / 2 ^ 7 % 2 ^ 6 :=
  toNat_extractLsb'_eq_div_mod s.dspControl 7 6

end Sys2Proof.Machine
end

section
/-!
Elements widened, narrowed and copied (`41_bit_pack_precision.md` R162, R163, R167 to R179, R184 to R187), as arithmetic
on their values; BITREV is said bit by bit.
-/

namespace Sys2Proof.Machine

theorem append_eq_ofNat {n m : Nat} (x : BitVec n) (y : BitVec m) :
    x ++ y = BitVec.ofNat (n + m) (x.toNat * 2 ^ m + y.toNat) :=
  eq_ofNat_of_toNat_eq (toNat_append_eq_add x y)

theorem packPH_eq_ofNat (b a : Half) : packPH b a = BitVec.ofNat 32 (b.toNat * 2 ^ 16 + a.toNat) :=
  append_eq_ofNat b a

/-! ### Wider -/

theorem getLsbD_reverseHalf (x : Half) (n : Nat) :
    (reverseHalf x).getLsbD n = (decide (n < 16) && x.getLsbD (15 - n)) := by
  rw [reverseHalf, BitVec.getLsbD_reverse, BitVec.getMsbD_eq_getLsbD]

/-- Bit `n` of BITREV's result (R162). -/
theorem getLsbD_reverseHalf_low (v : DWord) (n : Nat) :
    ((reverseHalf ((v.extractLsb' 0 32).extractLsb' 0 16)).setWidth 64).getLsbD n =
      (decide (n < 16) && v.getLsbD (15 - n)) := by
  rw [BitVec.getLsbD_setWidth, getLsbD_reverseHalf, BitVec.getLsbD_extractLsb', BitVec.getLsbD_extractLsb',
    Nat.zero_add, Nat.zero_add]
  by_cases h : n < 16
  · rw [decide_eq_true (by omega : n < 64), decide_eq_true (by omega : 15 - n < 16),
      decide_eq_true (by omega : 15 - n < 32), Bool.true_and, Bool.true_and, Bool.true_and]
  · rw [decide_eq_false h, Bool.false_and, Bool.false_and, Bool.and_false]

/-- A halfword below zeros is a word with it in the left half (R167). -/
theorem append_zeros_eq_ofNat (x : Half) : x ++ 0#16 = BitVec.ofNat 32 (x.toNat * 2 ^ 16) := by
  apply eq_ofNat_of_toNat_eq
  rw [toNat_append_eq_add, BitVec.toNat_zero, Nat.add_zero]

theorem expandQ15_eq (b : Byte) : expandQ15 b = BitVec.ofNat 16 (b.toNat * 2 ^ 7) := by
  apply eq_ofNat_of_toNat_eq
  rw [expandQ15, toNat_append_eq_add, toNat_append_eq_add]
  simp

theorem expandU16_eq (b : Byte) : expandU16 b = BitVec.ofNat 16 b.toNat := by
  apply eq_ofNat_of_toNat_eq
  rw [expandU16, toNat_append_eq_add]
  simp

/-! ### Narrower -/

theorem byteA_eq_ofNat (w : Word) : byteA w = BitVec.ofNat 8 (halfA w).toNat := by
  apply BitVec.eq_of_toNat_eq
  rw [toNat_byteA, BitVec.toNat_ofNat, toNat_halfA]
  omega

theorem byteB_eq_ofNat (w : Word) : byteB w = BitVec.ofNat 8 ((halfA w).toNat / 2 ^ 8) := by
  apply BitVec.eq_of_toNat_eq
  rw [toNat_byteB, BitVec.toNat_ofNat, toNat_halfA]
  omega

theorem byteC_eq_ofNat (w : Word) : byteC w = BitVec.ofNat 8 (halfB w).toNat := by
  apply BitVec.eq_of_toNat_eq
  rw [toNat_byteC, BitVec.toNat_ofNat, toNat_halfB]

theorem byteD_eq_ofNat (w : Word) : byteD w = BitVec.ofNat 8 ((halfB w).toNat / 2 ^ 8) := by
  apply eq_ofNat_of_toNat_eq
  rw [toNat_byteD, toNat_halfB, Nat.div_div_eq_div_mul]
  rfl

/-! ### Copies -/

theorem packPH_self (x : Half) : packPH x x = BitVec.ofNat 32 (x.toNat * (2 ^ 16 + 1)) := by
  rw [packPH_eq_ofNat, Nat.mul_add, Nat.mul_one]

theorem packQB_self (x : Byte) :
    packQB x x x x = BitVec.ofNat 32 (x.toNat * (2 ^ 24 + 2 ^ 16 + 2 ^ 8 + 1)) := by
  apply eq_ofNat_of_toNat_eq
  rw [toNat_packQB]
  omega

end Sys2Proof.Machine
end

section
/-!
Precision reduction (`41_bit_pack_precision.md` R180 to R183) in exact integers: a run of bits of a signed value is that
value divided by a power of two.
-/

namespace Sys2Proof.Machine

/-- Dropping the low `k` bits divides the signed value, rounding down. -/
theorem extractLsb'_eq_ofInt {m k n : Nat} (h : k + n ≤ m) (t : BitVec m) :
    t.extractLsb' k n = BitVec.ofInt n (t.toInt / 2 ^ k) := by
  have hshift : t.extractLsb' k n = (t.sshiftRight k).setWidth n := by
    ext i hi
    simp only [BitVec.getElem_extractLsb', BitVec.getElem_setWidth, BitVec.getLsbD_sshiftRight]
    rw [if_pos (by omega), decide_eq_false (by omega), Bool.not_false, Bool.true_and]
  rw [hshift, BitVec.sshiftRight_eq, setWidth_ofInt (by omega), Int.shiftRight_eq_div_pow, Nat.cast_pow,
    Nat.cast_two]

/-! ### Shifts (R182, R183) -/

theorem shiftToHalf_eq (a : Word) (sa : Nat) : shiftToHalf a sa = BitVec.ofInt 16 (a.toInt / 2 ^ sa) := by
  rw [shiftToHalf, ← BitVec.setWidth_eq_extractLsb' (by decide), BitVec.sshiftRight_eq, setWidth_ofInt (by decide),
    Int.shiftRight_eq_div_pow, Nat.cast_pow, Nat.cast_two]

/-- The guard bit holds the half that rounding adds. -/
theorem guarded_div_eq_roundDiv (x : Int) (s : Nat) : (2 * x / 2 ^ s + 1) / 2 = roundDiv x s := by
  cases s with
  | zero =>
    rw [roundDiv, if_pos rfl]
    omega
  | succ k =>
    have hp : (0 : Int) < 2 ^ k := by positivity
    rw [roundDiv, if_neg (Nat.succ_ne_zero k), Nat.succ_sub_one, pow_succ', Int.mul_ediv_mul_of_pos _ _ two_pos,
      mul_comm, ← Int.ediv_ediv_of_nonneg hp.le, Int.add_ediv_of_dvd_right (dvd_refl _), Int.ediv_self hp.ne']

/-- `roundShift` divides and rounds to the nearest. -/
theorem roundShift_eq {n : Nat} (a : BitVec n) (s : Nat) : roundShift a s = BitVec.ofInt n (roundDiv a.toInt s) := by
  have hguard : (a ++ 0#1).toInt = 2 * a.toInt := by
    rw [BitVec.toInt_append]
    cases n with
    | zero => simp [BitVec.of_length_zero]
    | succ n => simp
  have hone : 1#(n + 1) = BitVec.ofInt (n + 1) 1 := (BitVec.ofInt_natCast (n + 1) 1).symm
  rw [roundShift, BitVec.sshiftRight_eq, hguard, hone, ← BitVec.ofInt_add, extractLsb'_one_ofInt,
    Int.shiftRight_eq_div_pow, Nat.cast_pow, Nat.cast_two, guarded_div_eq_roundDiv]

theorem roundShiftToHalf_eq (a : Word) (sa : Nat) :
    roundShiftToHalf a sa = BitVec.ofInt 16 (roundDiv a.toInt sa) := by
  rw [roundShiftToHalf, roundShift_eq, ← BitVec.setWidth_eq_extractLsb' (by decide), setWidth_ofInt (by decide)]

/-! ### Saturation (R180, R181) -/

/-- `trunc16Sat16Round` (R180): only rounding up past the largest halfword does not fit. -/
theorem roundToHalf_eq (a : Word) : roundToHalf a = saturateSigned 16 (roundDiv a.toInt 16) := by
  have hlo := a.le_toInt
  have hhi := BitVec.toInt_lt (x := a)
  have ht : (a.signExtend 33 + 0x8000#33).toInt = a.toInt + 0x8000 := by
    rw [BitVec.signExtend, ← BitVec.ofInt_ofNat, ← BitVec.ofInt_add]
    exact BitVec.toInt_ofInt_eq_self (by decide) (by omega) (by omega)
  have hdiv : roundDiv a.toInt 16 = (a.toInt + 2 ^ (16 - 1)) / 2 ^ 16 := if_neg (by decide)
  simp only [roundToHalf, overflows_eq (n := 32) (by decide), ht, extractLsb'_eq_ofInt (k := 16) (n := 16) (m := 33)
    (by decide), hdiv]
  cases hf : fitsSigned 32 (a.toInt + 0x8000) with
  | true =>
    rw [fitsSigned_eq_true_iff] at hf
    exact (saturateSigned_of_fits (fitsSigned_eq_true_iff.mpr (by omega))).symm
  | false =>
    rw [fitsSigned_eq_false_iff] at hf
    exact (saturateSigned_of_gt (by omega)).symm

/-- `sat8ReducePrecision` (R181) by its three cases. -/
theorem reduceToByte_eq (a : Half) : reduceToByte a =
    (BitVec.ofInt 8 (clampUnsigned 8 (a.toInt / 2 ^ 7)), decide (a.toInt < 0 ∨ 0x7F80 < a.toInt)) := by
  have hlo := a.le_toInt
  have hhi := BitVec.toInt_lt (x := a)
  have hval := a.toInt_eq_toNat_cond
  unfold reduceToByte
  rw [BitVec.msb_eq_toInt, extractLsb'_eq_ofInt (k := 7) (by decide), BitVec.extractLsb'_toNat, Nat.shiftRight_zero]
  by_cases hneg : a.toInt < 0
  · have hclamp : clampUnsigned 8 (a.toInt / 2 ^ 7) = 0 := by unfold clampUnsigned; omega
    rw [if_pos (decide_eq_true hneg), hclamp, decide_eq_true (.inl hneg)]
    rfl
  · rw [if_neg (by simpa using hneg)]
    by_cases hbig : 0x7F80 < a.toInt
    · have hclamp : clampUnsigned 8 (a.toInt / 2 ^ 7) = 255 := by unfold clampUnsigned; omega
      rw [if_pos (by omega), hclamp, decide_eq_true (.inr hbig)]
      rfl
    · have hclamp : clampUnsigned 8 (a.toInt / 2 ^ 7) = a.toInt / 2 ^ 7 := by unfold clampUnsigned; omega
      rw [if_neg (by omega), hclamp, decide_eq_false (by omega)]

end Sys2Proof.Machine
end

section
/-!
The instructions of `41_bit_pack_precision.md`: each is ordinary, and its effect follows from what is said of its
operand form or helper.
-/

namespace Sys2Proof.Machine

/-- Settles O34: each splice is a sum by place; BALIGN by its two cases. -/
theorem spliceResults : Obligations.SpliceResults := by
  intro rt rs sa s
  refine ⟨fun _ => exec_of_ordinary rfl ?_, fun h => exec_of_ordinary rfl ?_, fun h => exec_of_ordinary rfl ?_,
    fun h ha => ⟨s.any 64 0, exec_of_ordinary rfl (if_pos h) ha⟩⟩
  · rw [appendWord_eq]
  · rw [prependWord_eq _ _ h]
  · rw [if_neg (by omega), alignWord_eq _ _ (by omega)]

/-- Settles O35: the model's test is the statement's, and the word written is read off bit by bit. -/
theorem insertResults : Obligations.InsertResults := by
  rintro rt rs s _ _ ha rfl rfl
  rw [← s.toNat_posLow, ← s.toNat_scount, ← notWordValue_eq_false_iff, ← notWordValue_eq_false_iff, ← and_assoc,
    ← insertDefined_eq_true_iff]
  refine ⟨fun h => ⟨_, exec_of_ordinary rfl (if_pos h) ha, fun n hn => ?_⟩,
    fun h => ⟨s.any 64 0, exec_of_ordinary rfl (if_neg h) ha⟩⟩
  have hfield := insertDefined_eq_true_iff.mp h.1
  exact getLsbD_insertDWord _ _ (by omega) hn

/-- Settles O36: BITREV bit by bit, the others by the value of each element. -/
theorem expandResults : Obligations.ExpandResults := by
  refine ⟨fun rd rt s ha => ⟨_, exec_of_ordinary rfl rfl ha, getLsbD_reverseHalf_low (s.gpr rt)⟩, ?_⟩
  intro rd rs rt s
  refine ⟨exec_of_ordinary rfl ?packrl, exec_of_ordinary rfl ?_, exec_of_ordinary rfl ?_, exec_of_ordinary rfl ?_,
    exec_of_ordinary rfl ?_, exec_of_ordinary rfl ?_, exec_of_ordinary rfl ?_, exec_of_ordinary rfl ?_,
    exec_of_ordinary rfl ?_, exec_of_ordinary rfl ?_, exec_of_ordinary rfl ?_⟩
  case packrl => rw [packPH_eq_ofNat, toNat_halfA, toNat_halfB, ofNat_mod_mul_add (by decide : 16 + 16 = 32)]
  all_goals simp only [append_zeros_eq_ofNat, expandQ15_eq, expandU16_eq]

/-- Settles O37: each byte is the low or the high part of its half, each copy a multiple by place. -/
theorem narrowAndReplicateResults : Obligations.NarrowAndReplicateResults := by
  intro rd rs rt s
  refine ⟨exec_of_ordinary rfl ?_, exec_of_ordinary rfl ?_, exec_of_ordinary rfl ?_, exec_of_ordinary rfl ?_,
    exec_of_ordinary rfl ?_, fun imm => exec_of_ordinary rfl rfl, fun imm => exec_of_ordinary rfl ?_⟩
  · simp only [byteC_eq_ofNat, byteA_eq_ofNat]
  · simp only [byteD_eq_ofNat, byteB_eq_ofNat]
  · rw [packPH_eq_ofNat, toNat_halfB, toNat_halfB]
  · rw [packPH_self, toNat_halfA]
  · rw [packQB_self, toNat_byteA]
  · rw [packQB_self]

/-- Settles O38: each helper divides the exact value, rounding or clamping as its page says. -/
theorem precisionReductionResults : Obligations.PrecisionReductionResults := by
  intro rd rs rt s
  refine ⟨exec_of_ordinary rfl ?_, exec_of_ordinary rfl ?_, fun sa _ => exec_of_ordinary rfl ?_,
    fun sa _ => exec_of_ordinary rfl ?_⟩
  · simp only [roundToHalf_eq]
  · simp only [reduceToByte_eq]
  · simp only [shiftToHalf_eq]
  · simp only [roundShiftToHalf_eq]

end Sys2Proof.Machine
end

section
/-!
How an instruction can end, whatever it is (`60_exceptions.md` R411, R419, R422): in a next state, in a trap of its own,
in a trap of its load, or as the unpredictable operation of a branch in a delay slot (R203).
-/

namespace Sys2Proof.Machine

/-- A branch runs in the frame of `branching`. -/
theorem exec_eq_branching {i : Instr} (hb : isBranch i = true) (s : State) :
    ∃ after, exec i s = branching i.isaTag i s after := by
  rcases exec_frame i s with ⟨hn, -⟩ | ⟨_, _, _, hn, -⟩ | ⟨-, -, h⟩
  · cases hn.symm.trans hb
  · cases hn.symm.trans hb
  · exact h

theorem exec_branch_in_delay_slot_pre6 {i : Instr} {s : State} (hb : isBranch i = true) (hs : s.slot = .delay)
    (hr : s.params.baseRelease = .pre6) : exec i s = .fault (.unpredOp .ctiInDelaySlot) := by
  obtain ⟨after, e⟩ := exec_eq_branching hb s
  rw [e, branching, hs, hr]

theorem exec_branch_in_delay_slot_r6 {i : Instr} {s : State} (hb : isBranch i = true) (hs : s.slot = .delay)
    (hr : s.params.baseRelease = .r6) : exec i s = raise .reservedInstruction (instrInfo i) s := by
  obtain ⟨after, e⟩ := exec_eq_branching hb s
  rw [e, branching, hs, hr]

/-- Settles O13: what a delay slot makes of a branch comes before `DSP_CHECK` in the frame of a branch. -/
theorem branchInTheDelaySlot : Obligations.BranchInTheDelaySlot := fun _ _ hb hs =>
  ⟨exec_branch_in_delay_slot_pre6 hb hs, exec_branch_in_delay_slot_r6 hb hs⟩

/-- Everything an instruction can end in. -/
theorem exec_cases (i : Instr) (s : State) :
    (∃ t, exec i s = .next t) ∨
    (∃ c, (c = .reservedInstruction ∨ c = .dspDisabled) ∧ exec i s = raise c (instrInfo i) s) ∨
    (∃ c a n, loadAccess s i = some (a, n) ∧ exec i s = raise c a s) ∨
    ((isBranch i = true ∧ s.slot = .delay ∧ s.params.baseRelease = .pre6) ∧
      exec i s = .fault (.unpredOp .ctiInDelaySlot)) := by
  rcases exec_frame i s with ⟨-, -, after, he⟩ | ⟨a, n, after, -, hl, he⟩ | ⟨hb, -, after, he⟩ <;> rw [he]
  · rcases ordinary_cases i.isaTag i s after with ⟨-, e⟩ | ⟨c, hc, e⟩
    · exact .inl ⟨_, e⟩
    · exact .inr (.inl ⟨c, dspCheck_cause hc, e⟩)
  · rcases loading_cases i.isaTag i s a n after with ⟨-, -, e⟩ | ⟨c, hc, e⟩ | ⟨c, -, -, e⟩
    · exact .inl ⟨_, e⟩
    · exact .inr (.inl ⟨c, dspCheck_cause hc, e⟩)
    · exact .inr (.inr (.inl ⟨c, a, n, hl, e⟩))
  · rcases branching_cases i.isaTag i s after with ⟨-, -, e⟩ | ⟨c, -, hc, e⟩ | ⟨hs, hr, e⟩ | ⟨-, e⟩
    · exact .inl ⟨_, e⟩
    · exact .inr (.inl ⟨c, dspCheck_cause hc, e⟩)
    · exact .inr (.inr (.inr ⟨⟨hb, hs, hr⟩, e⟩))
    · exact .inr (.inl ⟨_, .inl rfl, e⟩)

theorem exec_ne_refused (i : Instr) (s : State) (r : Refusal) : exec i s ≠ .refused r := by
  intro h
  rcases exec_cases i s with ⟨_, e⟩ | ⟨_, -, e⟩ | ⟨_, _, _, -, e⟩ | ⟨-, e⟩ <;> cases e.symm.trans h

theorem exec_eq_unpredOp_iff (i : Instr) (s : State) (u : UnpredReason) : exec i s = .fault (.unpredOp u) ↔
    isBranch i = true ∧ s.slot = .delay ∧ s.params.baseRelease = .pre6 := by
  constructor
  · intro h
    rcases exec_cases i s with ⟨_, e⟩ | ⟨_, -, e⟩ | ⟨_, _, _, -, e⟩ | ⟨hslot, -⟩
    · cases e.symm.trans h
    · cases e.symm.trans h
    · cases e.symm.trans h
    · exact hslot
  · rintro ⟨hb, hs, hr⟩
    cases u
    exact exec_branch_in_delay_slot_pre6 hb hs hr

/-- A trap with any other cause than those of the instruction itself is raised by a load. -/
theorem loadAccess_ne_none_of_trap {i : Instr} {s : State} {f : Trap} (h : exec i s = .fault (.trap f))
    (hri : f.cause ≠ .reservedInstruction) (hdd : f.cause ≠ .dspDisabled) : loadAccess s i ≠ none := by
  rcases exec_cases i s with ⟨_, e⟩ | ⟨c, hc, e⟩ | ⟨_, _, _, hl, -⟩ | ⟨-, e⟩
  · cases e.symm.trans h
  · cases e.symm.trans h
    exact absurd hc (not_or_intro hri hdd)
  · simp [hl]
  · cases e.symm.trans h

/-- Settles O17: no other end is among the ends of an instruction. -/
theorem onlyTheNamedStops : Obligations.OnlyTheNamedStops := fun i s =>
  ⟨exec_ne_refused i s, exec_eq_unpredOp_iff i s, fun _ => loadAccess_ne_none_of_trap⟩

end Sys2Proof.Machine
end

section
/-!
Conditions, picks and branch targets in exact integers (`42_branch_compare_pick.md` R201, R202, R206, R209, R218, R219).
-/

namespace Sys2Proof.Machine

/-! ### Comparisons -/

/-- EQ of signed elements (R201). -/
theorem beq_eq_toInt {n : Nat} (a b : BitVec n) : (a == b) = decide (a.toInt = b.toInt) := by
  simp only [BitVec.toInt_inj, beq_eq_decide]

/-- EQ of unsigned elements (R201). -/
theorem beq_eq_toNat {n : Nat} (a b : BitVec n) : (a == b) = decide (a.toNat = b.toNat) := by
  simp only [BitVec.toNat_inj, beq_eq_decide]

/-- The condition bits of a halfword compare as a sum by place. -/
theorem comparePH_eq_ofNat (f : Half → Half → Bool) (x y : Word) : comparePH f x y =
    BitVec.ofNat 2 (2 * (f (halfB x) (halfB y)).toNat + (f (halfA x) (halfA y)).toNat) := by
  apply eq_ofNat_of_toNat_eq
  simp only [comparePH, toNat_append_eq_add, BitVec.toNat_ofBool]
  omega

/-- The condition bits of a byte compare as a sum by place. -/
theorem compareQB_eq_ofNat (f : Byte → Byte → Bool) (x y : Word) : compareQB f x y =
    BitVec.ofNat 4 (8 * (f (byteD x) (byteD y)).toNat + 4 * (f (byteC x) (byteC y)).toNat +
      2 * (f (byteB x) (byteB y)).toNat + (f (byteA x) (byteA y)).toNat) := by
  apply eq_ofNat_of_toNat_eq
  simp only [compareQB, toNat_append_eq_add, BitVec.toNat_ofBool]
  omega

/-! ### Picks -/

theorem State.getLsbD_ccond (s : State) {k : Nat} (hk : k < 8) :
    s.ccond.getLsbD k = s.dspControl.getLsbD (24 + k) := by
  rw [State.ccond, BitVec.getLsbD_extractLsb', decide_eq_true hk, Bool.true_and]

/-- Picking between the elements of two words is picking the word the element is taken from. -/
theorem pickElement_word {n : Nat} (s : State) (element : Word → BitVec n) (c : Bool) (rs rt : Reg) :
    pickElement c (element (s.word rs)) (element (s.word rt)) = element (s.word (if c then rs else rt)) := by
  cases c <;> rfl

/-! ### Branches -/

/-- The condition of the branches reads all seven bits of `pos` (R202). -/
theorem State.posAtLeast32_eq (s : State) : s.posAtLeast32 = decide (32 ≤ s.dspControl.toNat % 2 ^ 7) := by
  rw [State.posAtLeast32, State.pos, toNat_extractLsb'_bottom]

/-- The target of a branch (R202) as an exact sum. -/
theorem State.branchTarget_eq_ofInt (s : State) (offset : BitVec 16) :
    s.branchTarget offset = BitVec.ofInt 64 (s.pc.toInt + 4 + 4 * offset.toInt) := by
  rw [BitVec.ofInt_add, BitVec.ofInt_add, BitVec.ofInt_toInt, State.branchTarget, BitVec.signExtend,
    BitVec.toInt_append_zero]
  rfl

theorem branching_of_available {i : Instr} {s : State} (hs : s.slot = .none) (h : Available i s) (after : State) :
    branching i.isaTag i s after = .next after := by
  rw [branching, hs]
  simp only [(dspCheck_eq_none_iff i s).mpr h]

end Sys2Proof.Machine
end

section
/-!
The instructions of `42_branch_compare_pick.md`: the branches in no slot, the compares and the picks.
-/

namespace Sys2Proof.Machine

/-- An available branch in no slot answers its effect, in whatever form the effect is given. -/
theorem exec_of_branching {i : Instr} {s effect after : State} (he : exec i s = branching i.isaTag i s effect)
    (hs : s.slot = .none) (ha : effect = after) (h : Available i s) : exec i s = .next after := by
  rw [he, branching_of_available hs h, ha]

/-- Settles O39: the test of `pos` is that of its seven bits, the target the exact sum. -/
theorem branchResults : Obligations.BranchResults := by
  intro offset s hs
  refine ⟨exec_of_branching rfl hs ?delayed, exec_of_branching rfl hs ?compact⟩
  case delayed =>
    simp only [State.branchDelayed, State.posAtLeast32_eq, State.branchTarget_eq_ofInt, decide_eq_true_eq]
  case compact =>
    simp only [State.branchCompact, State.posAtLeast32_eq, State.branchTarget_eq_ofInt, decide_eq_true_eq]

/-- Settles O40: the free bits are one draw, EQ compares the values because they determine the elements, and LT and LE
are by definition the comparisons of the statement. -/
theorem compareResults : Obligations.CompareResults := by
  intro rd rs rt s
  refine ⟨fun h => ⟨s.any 6 0, exec_of_ordinary rfl ?eqPH h⟩, fun h => ⟨s.any 6 0, exec_of_ordinary rfl rfl h⟩,
    fun h => ⟨s.any 6 0, exec_of_ordinary rfl rfl h⟩, fun h => ⟨s.any 4 0, exec_of_ordinary rfl ?eqQB h⟩,
    fun h => ⟨s.any 4 0, exec_of_ordinary rfl rfl h⟩, fun h => ⟨s.any 4 0, exec_of_ordinary rfl rfl h⟩,
    exec_of_ordinary rfl ?eqGpr, exec_of_ordinary rfl ?ltGpr, exec_of_ordinary rfl ?leGpr,
    fun h => ⟨s.any 4 0, exec_of_ordinary rfl ?eqBoth h⟩, fun h => ⟨s.any 4 0, exec_of_ordinary rfl ?ltBoth h⟩,
    fun h => ⟨s.any 4 0, exec_of_ordinary rfl ?leBoth h⟩,
    fun f => comparePH_eq_ofNat f _ _, fun f => compareQB_eq_ofNat f _ _⟩
  case eqPH => simp only [beq_eq_toInt, State.setCondPH]
  case eqQB => simp only [beq_eq_toNat, State.setCondQB]
  case eqGpr => simp only [beq_eq_toNat, BitVec.ofNat_toNat]
  case eqBoth => simp only [beq_eq_toNat, BitVec.ofNat_toNat, State.setCondQB]
  case ltGpr | leGpr | ltBoth | leBoth => rw [BitVec.ofNat_toNat]; rfl

/-- Settles O41: each element comes whole from the word its condition bit picks. -/
theorem pickResults : Obligations.PickResults := by
  intro rd rs rt s
  refine ⟨exec_of_ordinary rfl ?_, exec_of_ordinary rfl ?_⟩
  · simp only [pickPH, pickElement_word, State.getLsbD_ccond, Nat.reduceLT, Nat.reduceAdd]
  · simp only [pickQB, pickElement_word, State.getLsbD_ccond, Nat.reduceLT, Nat.reduceAdd]

end Sys2Proof.Machine
end

section
/-!
Products and accumulations of the dot products (`43_dot_product_mac.md` R231 to R235, R262) in exact integers: a clamped
product is a saturated one, and each accumulation adds or subtracts the exact value the product stands for.
-/

namespace Sys2Proof.Machine

/-! ### Clamped values -/

/-- A clamped value is a value of its width. -/
theorem toInt_ofInt_clampSigned {n : Nat} (hn : 0 < n) (x : Int) :
    (BitVec.ofInt n (clampSigned n x)).toInt = clampSigned n x := by
  have hp : (0 : Int) < 2 ^ (n - 1) := by positivity
  have hlo : -2 ^ (n - 1) ≤ clampSigned n x := le_max_left _ _
  have hhi : clampSigned n x ≤ 2 ^ (n - 1) - 1 := max_le (by omega) (min_le_left _ _)
  exact BitVec.toInt_ofInt_eq_self hn hlo (by omega)

/-- Widening a clamped word keeps its value. -/
theorem wordFlagged_clampSigned (x : Int) (c : Bool) :
    wordFlagged (BitVec.ofInt 32 (clampSigned 32 x), c) = (BitVec.ofInt 64 (clampSigned 32 x), c) := by
  rw [wordFlagged, BitVec.signExtend, toInt_ofInt_clampSigned (by decide)]

/-! ### Products (R231 to R233) -/

theorem abs_toInt_le {n : Nat} (c : BitVec n) : |c.toInt| ≤ 2 ^ (n - 1) :=
  abs_le.mpr ⟨c.le_toInt, BitVec.toInt_lt.le⟩

theorem abs_toInt_lt {n : Nat} (hn : 0 < n) {c : BitVec n} (h : c ≠ BitVec.intMin n) : |c.toInt| < 2 ^ (n - 1) := by
  have hne : c.toInt ≠ -2 ^ (n - 1) := by
    rw [← BitVec.toInt_intMin_of_pos hn]
    exact BitVec.toInt_ne.mpr h
  have hlo := c.le_toInt
  exact abs_lt.mpr ⟨by omega, BitVec.toInt_lt⟩

/-- Only the square of the minimum reaches the bound of a product. -/
theorem toInt_mul_toInt_lt {n : Nat} (hn : 0 < n) {a b : BitVec n} (h : ¬(a = BitVec.intMin n ∧ b = BitVec.intMin n)) :
    a.toInt * b.toInt < 2 ^ (n - 1) * 2 ^ (n - 1) := by
  have hp : (0 : Int) < 2 ^ (n - 1) := by positivity
  calc a.toInt * b.toInt ≤ |a.toInt| * |b.toInt| := abs_mul a.toInt b.toInt ▸ le_abs_self _
    _ < 2 ^ (n - 1) * 2 ^ (n - 1) := by
      rcases not_and_or.mp h with ha | hb
      · exact mul_lt_mul_of_lt_of_le_of_nonneg_of_pos (abs_toInt_lt hn ha) (abs_toInt_le b) (abs_nonneg _) hp
      · exact mul_lt_mul_of_le_of_lt_of_nonneg_of_pos (abs_toInt_le a) (abs_toInt_lt hn hb) (abs_nonneg _) hp

/-- A left shift by one doubles the exact product. -/
theorem smul_shiftLeft_one {n : Nat} (m : Nat) (a b : BitVec n) :
    smul m a b <<< 1 = BitVec.ofInt m (2 * (a.toInt * b.toInt)) := by
  have htwo : BitVec.twoPow m 1 = BitVec.ofInt m 2 := by
    apply BitVec.eq_of_toNat_eq
    rw [BitVec.toNat_twoPow]
    rfl
  rw [BitVec.shiftLeft_eq_mul_twoPow, htwo, smul, ← BitVec.ofInt_mul, mul_comm]

/-- The fractional product is the exact one doubled and saturated. -/
theorem mulFrac_eq {n : Nat} (hn : 0 < n) (a b : BitVec n) :
    mulFrac a b = (BitVec.ofInt (2 * n) (fracProduct a b), fracClamped a b) := by
  have hbound : (2 : Int) ^ (2 * n - 1) = 2 * (2 ^ (n - 1) * 2 ^ (n - 1)) := by
    rw [← pow_add, ← pow_succ']
    congr 1
    omega
  change _ = saturateSigned (2 * n) (2 * (a.toInt * b.toInt))
  unfold mulFrac
  split
  next hmin =>
    have hint : a.toInt * b.toInt = 2 ^ (n - 1) * 2 ^ (n - 1) := by
      rw [hmin.1, hmin.2, BitVec.toInt_intMin_of_pos hn, neg_mul_neg]
    exact (saturateSigned_of_gt (by omega)).symm
  next hmin =>
    have hhi := toInt_mul_toInt_lt hn hmin
    have hlo : -(2 ^ (n - 1) * 2 ^ (n - 1)) ≤ a.toInt * b.toInt := by
      rw [← pow_add, show n - 1 + (n - 1) = n * 2 - 2 by omega]
      exact BitVec.le_toInt_mul_toInt
    rw [smul_shiftLeft_one, saturateSigned_of_fits (fitsSigned_eq_true_iff.mpr (by omega))]

/-- A fractional product of halfwords, widened. -/
theorem wordFlagged_mulFrac (a b : Half) :
    wordFlagged (mulFrac a b) = (BitVec.ofInt 64 (fracProduct a b), fracClamped a b) := by
  rw [mulFrac_eq (by decide)]
  exact wordFlagged_clampSigned _ _

theorem fracSum_ofInt (x y : Int) (c d : Bool) :
    fracSum ((BitVec.ofInt 64 x, c), (BitVec.ofInt 64 y, d)) = (BitVec.ofInt 64 (x + y), c || d) := by
  rw [fracSum, BitVec.ofInt_add]

theorem fracDiff_ofInt (x y : Int) (c d : Bool) :
    fracDiff ((BitVec.ofInt 64 x, c), (BitVec.ofInt 64 y, d)) = (BitVec.ofInt 64 (x - y), c || d) := by
  rw [fracDiff, ofInt_sub]

theorem setWidth_mulBytes (a b : Byte) : (mulBytes a b).setWidth 64 = BitVec.ofInt 64 (uint a * uint b) := by
  have hab : a.toNat * b.toNat < 2 ^ 16 := Nat.mul_lt_mul'' a.isLt b.isLt (c := 2 ^ 8) (d := 2 ^ 8)
  rw [mulBytes, umul, BitVec.setWidth_ofNat_of_le_of_lt (by decide) hab, uint, uint, ← Nat.cast_mul,
    BitVec.ofInt_natCast]

theorem leftByteDot_eq (x y : Word) : leftByteDot x y =
    BitVec.ofInt 64 (uint (byteD x) * uint (byteD y) + uint (byteC x) * uint (byteC y)) := by
  rw [leftByteDot, setWidth_mulBytes, setWidth_mulBytes, BitVec.ofInt_add]

theorem rightByteDot_eq (x y : Word) : rightByteDot x y =
    BitVec.ofInt 64 (uint (byteB x) * uint (byteB y) + uint (byteA x) * uint (byteA y)) := by
  rw [rightByteDot, setWidth_mulBytes, setWidth_mulBytes, BitVec.ofInt_add]

/-! ### Accumulations (R230, R234, R235, R262) -/

theorem AddOp.apply_ofInt_right {n : Nat} (op : AddOp) (v : BitVec n) (x : Int) :
    op.apply v (BitVec.ofInt n x) = BitVec.ofInt n (op.exact v.toInt x) := by
  rw [← op.apply_ofInt, BitVec.ofInt_toInt]

/-- A wrapping accumulation keeps the exact result modulo `2 ^ 64`. -/
theorem accumulate_ofInt (op : AddOp) (v : DWord) (x : Int) (c : Bool) :
    accumulate op v (BitVec.ofInt 64 x, c) = (BitVec.ofInt 64 (op.exact v.toInt x), c) := by
  rw [accumulate, op.apply_ofInt_right]

/-- The first test of `satAcc31` (R234): a nonnegative value with a bit above bit 30 is above the largest word. -/
theorem above_word_iff (t : DWord) :
    t.msb = false ∧ t.extractLsb' 31 32 ≠ 0#32 ↔ 2 ^ (32 - 1) - 1 < t.toInt := by
  have hval := t.toInt_eq_toNat_cond
  rw [BitVec.msb_eq_toInt, decide_eq_false_iff_not, Ne, ← BitVec.toNat_inj, BitVec.extractLsb'_toNat,
    Nat.shiftRight_eq_div_pow, BitVec.toNat_ofNat]
  omega

/-- Its second test: a negative value with a clear bit above bit 30 is below the smallest word. -/
theorem below_word_iff (t : DWord) :
    t.msb = true ∧ t.extractLsb' 31 32 ≠ BitVec.allOnes 32 ↔ t.toInt < -2 ^ (32 - 1) := by
  have hval := t.toInt_eq_toNat_cond
  rw [BitVec.msb_eq_toInt, decide_eq_true_iff, Ne, ← BitVec.toNat_inj, BitVec.extractLsb'_toNat,
    Nat.shiftRight_eq_div_pow, BitVec.toNat_allOnes]
  omega

/-- `satAcc31` (R234) by its three cases. -/
theorem satToQ31_eq (t : DWord) :
    satToQ31 t = (BitVec.ofInt 64 (clampSigned 32 t.toInt), !fitsSigned 32 t.toInt) := by
  unfold satToQ31
  by_cases habove : 2 ^ (32 - 1) - 1 < t.toInt
  · have hclamp : clampSigned 32 t.toInt = 2 ^ 31 - 1 := by unfold clampSigned; omega
    rw [if_pos ((above_word_iff t).mpr habove), hclamp, fitsSigned_eq_false_iff.mpr (.inr habove)]
    rfl
  · rw [if_neg (mt (above_word_iff t).mp habove)]
    by_cases hbelow : t.toInt < -2 ^ (32 - 1)
    · have hclamp : clampSigned 32 t.toInt = -2 ^ 31 := by unfold clampSigned; omega
      rw [if_pos ((below_word_iff t).mpr hbelow), hclamp, fitsSigned_eq_false_iff.mpr (.inl hbelow)]
      rfl
    · have hclamp : clampSigned 32 t.toInt = t.toInt := by unfold clampSigned; omega
      rw [if_neg (mt (below_word_iff t).mp hbelow), hclamp, fitsSigned_eq_true_iff.mpr (by omega),
        BitVec.ofInt_toInt]
      rfl

/-- DPAQX_SA and DPSQX_SA saturate the sum after it has wrapped. -/
theorem accumulateSat31_ofInt (op : AddOp) (v : DWord) (x : Int) (c : Bool) :
    accumulateSat31 op v (BitVec.ofInt 64 x, c) =
      (BitVec.ofInt 64 (clampSigned 32 (BitVec.ofInt 64 (op.exact v.toInt x)).toInt),
        c || !fitsSigned 32 (BitVec.ofInt 64 (op.exact v.toInt x)).toInt) := by
  rw [accumulateSat31, op.apply_ofInt_right, satToQ31_eq]

/-- `satAcc63` (R235): the 65-bit intermediate holds the exact sum of the accumulator and the product. -/
theorem accumulateSat63_mulFrac (op : AddOp) (v : DWord) (a b : Word) :
    accumulateSat63 op v (mulFrac a b) =
      (BitVec.ofInt 64 (clampSigned 64 (op.exact v.toInt (fracProduct a b))),
        fracClamped a b || !fitsSigned 64 (op.exact v.toInt (fracProduct a b))) := by
  have hvalue : (BitVec.ofInt 64 (fracProduct a b)).toInt = fracProduct a b := toInt_ofInt_clampSigned (by decide) _
  rw [mulFrac_eq (by decide), accumulateSat63, satAccumulate63, satOf_eq (by decide), toInt_wideS, hvalue]
  rfl

/-- `sat32AccumulateQ31` (R262): the low 33 bits of the sum come from LO and the product alone. -/
theorem satAccumulate31_eq (hi lo : DWord) (a : Word) :
    satAccumulate31 hi lo a = saturateSigned 32 (BitVec.ofInt 33 (lo.toInt + a.toInt)).toInt := by
  have hlow : (hi ++ lo).setWidth 33 = BitVec.ofInt 33 lo.toInt := by
    rw [BitVec.setWidth_append, dif_pos (by decide), ← setWidth_ofInt (by decide : 33 ≤ 64), BitVec.ofInt_toInt]
  have hprod : (a.signExtend 128).setWidth 33 = BitVec.ofInt 33 a.toInt := by
    rw [BitVec.signExtend, setWidth_ofInt (by decide)]
  have hsum : ((hi ++ lo) + a.signExtend 128).extractLsb' 0 33 = BitVec.ofInt 33 (lo.toInt + a.toInt) := by
    rw [← BitVec.setWidth_eq_extractLsb' (by decide), BitVec.setWidth_add _ _ (by decide), hlow, hprod,
      BitVec.ofInt_add]
  rw [satAccumulate31, hsum, satOf_eq (by decide)]

/-- MAQ_SA adds the exact product to LO and saturates. -/
theorem wordFlagged_accumulateQ31_mulFrac (hi lo : DWord) (a b : Half) :
    wordFlagged (accumulateQ31 hi lo (mulFrac a b)) =
      (BitVec.ofInt 64 (clampSigned 32 (BitVec.ofInt 33 (lo.toInt + fracProduct a b)).toInt),
        fracClamped a b || !fitsSigned 32 (BitVec.ofInt 33 (lo.toInt + fracProduct a b)).toInt) := by
  have hvalue : (BitVec.ofInt 32 (fracProduct a b)).toInt = fracProduct a b := toInt_ofInt_clampSigned (by decide) _
  rw [mulFrac_eq (by decide), accumulateQ31, satAccumulate31_eq, hvalue]
  exact wordFlagged_clampSigned _ _

end Sys2Proof.Machine
end

section
/-!
The instructions of `43_dot_product_mac.md`: each is ordinary, and its effect is that of its accumulation on the exact
values of its products.
-/

namespace Sys2Proof.Machine

/-- Settles O42: the words' sums and products are those of the exact values modulo 2^64. -/
theorem integerDotProductResults : Obligations.IntegerDotProductResults := by
  intro ac rs rt s
  refine ⟨exec_of_ordinary rfl ?dpa, exec_of_ordinary rfl ?dps, exec_of_ordinary rfl ?mulsa,
    exec_of_ordinary rfl ?dpax, exec_of_ordinary rfl ?dpsx, exec_of_ordinary rfl ?dpauLeft,
    exec_of_ordinary rfl ?dpauRight, exec_of_ordinary rfl ?dpsuLeft, exec_of_ordinary rfl ?dpsuRight⟩
  case dpa | dps | mulsa =>
    simp only [halfProducts, smul, BitVec.ofInt_add, ofInt_sub, BitVec.ofInt_toInt]
  case dpax | dpsx => simp only [crossProducts, smul, BitVec.ofInt_add, ofInt_sub, BitVec.ofInt_toInt]
  case dpauLeft | dpsuLeft => simp only [leftByteDot_eq, BitVec.ofInt_add, ofInt_sub, BitVec.ofInt_toInt]
  case dpauRight | dpsuRight => simp only [rightByteDot_eq, BitVec.ofInt_add, ofInt_sub, BitVec.ofInt_toInt]

/-- Settles O43: each widened product is the clamped exact one, and the accumulation wraps. -/
theorem fractionalDotProductResults : Obligations.FractionalDotProductResults := by
  intro ac rs rt s
  refine ⟨exec_of_ordinary rfl ?dpaq, exec_of_ordinary rfl ?dpsq, exec_of_ordinary rfl ?dpaqx,
    exec_of_ordinary rfl ?dpsqx, exec_of_ordinary rfl ?mulsaq, exec_of_ordinary rfl ?maqLeft,
    exec_of_ordinary rfl ?maqRight⟩
  case dpaq | dpsq => simp only [halfFracs, wordFlagged_mulFrac, fracSum_ofInt, accumulate_ofInt, AddOp.exact]
  case dpaqx | dpsqx => simp only [crossFracs, wordFlagged_mulFrac, fracSum_ofInt, accumulate_ofInt, AddOp.exact]
  case mulsaq => simp only [halfFracs, wordFlagged_mulFrac, fracDiff_ofInt, accumulate_ofInt, AddOp.exact]
  case maqLeft | maqRight => simp only [wordFlagged_mulFrac, accumulate_ofInt, AddOp.exact]

/-- Settles O44: each product is the clamped exact one, and each accumulation saturates the sum of its own width. -/
theorem saturatingAccumulateResults : Obligations.SaturatingAccumulateResults := by
  intro ac rs rt s
  refine ⟨exec_of_ordinary rfl ?dpaqxSa, exec_of_ordinary rfl ?dpsqxSa, exec_of_ordinary rfl ?dpaqSa,
    exec_of_ordinary rfl ?dpsqSa, exec_of_ordinary rfl ?maqSaLeft, exec_of_ordinary rfl ?maqSaRight⟩
  case dpaqxSa | dpsqxSa =>
    simp only [crossFracs, wordFlagged_mulFrac, fracSum_ofInt, accumulateSat31_ofInt, AddOp.exact]
  case dpaqSa | dpsqSa => simp only [accumulateSat63_mulFrac, AddOp.exact]
  case maqSaLeft | maqSaRight => rw [wordFlagged_accumulateQ31_mulFrac]

end Sys2Proof.Machine
end

section
/-!
Accumulator extracts and shifts (`44_accumulator_access.md` R281, R286 to R289, R294, R308) in exact integers: a field
by division and remainder, the guarded shift as twice the shifted value, so that its tests and roundings are those of
the quotient.
-/

namespace Sys2Proof.Machine

/-! ### Operands -/

/-- The lowest run of bits, as a representative of the value. -/
theorem extractLsb'_zero_eq_ofNat {m : Nat} (x : BitVec m) (n : Nat) : x.extractLsb' 0 n = BitVec.ofNat n x.toNat := by
  rw [BitVec.extractLsb', Nat.shiftRight_zero]

/-- The low bits of a word in a register are those of the register. -/
theorem State.extractLsb'_word (s : State) (r : Reg) {n : Nat} (h : n ≤ 32) :
    (s.word r).extractLsb' 0 n = BitVec.ofNat n (s.gpr r).toNat := by
  apply BitVec.eq_of_toNat_eq
  rw [State.word, toNat_extractLsb'_bottom, extractLsb'_zero_eq_ofNat, BitVec.toNat_ofNat, BitVec.toNat_ofNat,
    Nat.mod_mod_of_dvd _ (Nat.pow_dvd_pow 2 h)]

/-- An amount in the low five bits of a register. -/
theorem State.toNat_amount (s : State) (r : Reg) :
    ((s.word r).extractLsb' 0 5).toNat = (s.gpr r).toNat % 2 ^ 5 := by
  rw [s.extractLsb'_word r (by decide), BitVec.toNat_ofNat]

theorem State.toNat_pos (s : State) : s.pos.toNat = s.dspControl.toNat % 2 ^ 7 :=
  toNat_extractLsb'_bottom s.dspControl 7

/-! ### Fields (R281) -/

/-- Masking with `k` ones keeps the remainder modulo `2 ^ k`. -/
theorem toNat_and_ones (v : DWord) {k j : Nat} (h : k + j = 64) :
    (v &&& (BitVec.allOnes 64 >>> j)).toNat = v.toNat % 2 ^ k := by
  apply Nat.eq_of_testBit_eq
  intro i
  have hbit : j + i < 64 ↔ i < k := by omega
  rw [Nat.testBit_mod_two_pow, BitVec.testBit_toNat, BitVec.testBit_toNat, BitVec.getLsbD_and,
    BitVec.getLsbD_ushiftRight, BitVec.getLsbD_allOnes, decide_eq_decide.mpr hbit, Bool.and_comm]

theorem extractField_of_le {start size : Nat} (v : DWord) (hs : size < 64) (h : size ≤ start) :
    extractField v start size = some (BitVec.ofNat 64 (v.toNat / 2 ^ (start - size) % 2 ^ (size + 1))) := by
  rw [extractField, if_pos h, Option.some_inj]
  apply eq_ofNat_of_toNat_eq
  rw [toNat_and_ones _ (by omega : size + 1 + (63 - size) = 64), BitVec.toNat_ushiftRight, Nat.shiftRight_eq_div_pow]

theorem extractField_of_lt {start size : Nat} (v : DWord) (h : start < size) : extractField v start size = none :=
  if_neg (Nat.not_le.mpr h)

/-- EXTP's extension (R282) of a field, by value. -/
theorem signFromWord_ofNat (n : Nat) :
    signFromWord (BitVec.ofNat 64 n) = BitVec.ofInt 64 (BitVec.ofNat 32 n).toInt := by
  rw [signFromWord, BitVec.signExtend, ← BitVec.setWidth_eq_extractLsb' (by decide),
    BitVec.setWidth_ofNat_of_le (by decide)]

/-- An extract past the end of the accumulator. -/
theorem State.extract_of_lt (s : State) (rt : Reg) (v : DWord) (widen : DWord → DWord) (decrement : Option Nat)
    {start size : Nat} (h : start < size) :
    s.extract rt (extractField v start size) widen decrement =
      ((s.setEfi 1#1).setGpr rt (s.any 64 0)).drawn 1 := by
  rw [extractField_of_lt v h]
  rfl

/-- A valid extract that leaves `pos` as it is. -/
theorem State.extract_of_le (s : State) (rt : Reg) (v : DWord) (widen : DWord → DWord) {start size : Nat}
    (hs : size < 64) (h : size ≤ start) :
    s.extract rt (extractField v start size) widen none = (s.setEfi 0#1).setGpr rt
      (widen (BitVec.ofNat 64 (v.toNat / 2 ^ (start - size) % 2 ^ (size + 1)))) := by
  rw [extractField_of_le v hs h]
  rfl

/-- A valid extract that moves `pos` down, modulo 128. -/
theorem State.extract_decrement_of_le (s : State) (rt : Reg) (v : DWord) (widen : DWord → DWord) {start size : Nat}
    (hs : size < 64) (h : size ≤ start) :
    s.extract rt (extractField v start size) widen (some size) =
      ((s.setPos (BitVec.ofInt 7 (uint (s.dspControl.extractLsb' 0 7) - (size + 1)))).setEfi 0#1).setGpr rt
        (widen (BitVec.ofNat 64 (v.toNat / 2 ^ (start - size) % 2 ^ (size + 1)))) := by
  have hpos : s.pos - BitVec.ofNat 7 (size + 1) =
      BitVec.ofInt 7 (uint (s.dspControl.extractLsb' 0 7) - (size + 1)) := by
    rw [ofInt_sub, ofInt_uint, BitVec.setWidth_eq, ← Nat.cast_succ, BitVec.ofInt_natCast]
    rfl
  rw [extractField_of_le v hs h, ← hpos]
  rfl

/-- An instruction that ends in an extract, by the test of validity. -/
theorem exec_of_extract {i : Instr} {s valid : State} {rt : Reg} {v : DWord} {widen : DWord → DWord}
    {decrement : Option Nat} {start size : Nat}
    (he : exec i s = ordinary i.isaTag i s (s.extract rt (extractField v start size) widen decrement))
    (hvalid : size ≤ start → s.extract rt (extractField v start size) widen decrement = valid) (ha : Available i s) :
    (size ≤ start → exec i s = .next valid.advance) ∧
    (start < size → ∃ v : DWord, exec i s = .next (((s.setEfi 1#1).setGpr rt v).drawn 1).advance) :=
  ⟨fun h => exec_of_ordinary he (hvalid h) ha,
    fun h => ⟨s.any 64 0, exec_of_ordinary he (s.extract_of_lt rt v widen decrement h) ha⟩⟩

/-! ### The guarded shift (R286) -/

theorem toInt_shiftGuarded (v : DWord) (shift : Nat) : (shiftGuarded v shift).toInt = 2 * v.toInt / 2 ^ shift := by
  rw [shiftGuarded, BitVec.toInt_sshiftRight, BitVec.toInt_append_zero, pow_one, mul_comm,
    Int.shiftRight_eq_div_pow, Nat.cast_pow, Nat.cast_two]

/-- The guard bit leaves room for the one that rounding adds. -/
theorem toInt_shiftGuarded_add_one (v : DWord) (shift : Nat) :
    (shiftGuarded v shift + 1#65).toInt = 2 * v.toInt / 2 ^ shift + 1 := by
  have hv := BitVec.toInt_lt (x := v)
  have hp : (1 : Int) ≤ 2 ^ shift := one_le_pow₀ one_le_two
  have hhi : 2 * v.toInt / 2 ^ shift < 2 ^ 64 - 1 :=
    Int.ediv_lt_of_lt_mul (by omega) (by omega)
  have hlo := (shiftGuarded v shift).le_toInt
  rw [toInt_shiftGuarded] at hlo
  have hone : 1#65 = BitVec.ofInt 65 1 := rfl
  rw [← BitVec.ofInt_toInt (x := shiftGuarded v shift), hone, ← BitVec.ofInt_add, toInt_shiftGuarded]
  exact BitVec.toInt_ofInt_eq_self (by decide) (by omega) (by omega)

/-- Without its guard bit, the guarded value is the shifted one. -/
theorem guarded_div_two (x : Int) (s : Nat) : 2 * x / 2 ^ s / 2 = x / 2 ^ s := by
  rw [Int.ediv_ediv_of_nonneg (by positivity), mul_comm _ (2 : Int), Int.mul_ediv_mul_of_pos _ _ two_pos]

/-- `ovf33` (R286): the value above the guard bit is no word. -/
theorem extractOverflows_eq (t : BitVec 65) : extractOverflows t = !fitsSigned 32 (t.toInt / 2) := by
  have hval := t.toInt_eq_toNat_cond
  rw [extractOverflows, Bool.eq_iff_iff, Bool.not_eq_true', fitsSigned_eq_false_iff, Bool.and_eq_true,
    decide_eq_true_iff, decide_eq_true_iff, Ne, Ne, ← BitVec.toNat_inj, ← BitVec.toNat_inj, BitVec.extractLsb'_toNat,
    Nat.shiftRight_eq_div_pow, BitVec.toNat_ofNat, BitVec.toNat_allOnes]
  omega

theorem extractOverflows_shiftGuarded (v : DWord) (shift : Nat) :
    extractOverflows (shiftGuarded v shift) = !fitsSigned 32 (v.toInt / 2 ^ shift) := by
  rw [extractOverflows_eq, toInt_shiftGuarded, guarded_div_two]

theorem extractOverflows_rounded (v : DWord) (shift : Nat) :
    extractOverflows (shiftGuarded v shift + 1#65) = !fitsSigned 32 (roundDiv v.toInt shift) := by
  rw [extractOverflows_eq, toInt_shiftGuarded_add_one, guarded_div_eq_roundDiv]

/-! ### Extracted words and halves -/

/-- R287 in exact integers. -/
theorem extractTrunc_eq (v : DWord) (shift : Nat) : extractTrunc v shift =
    (BitVec.ofInt 32 (v.toInt / 2 ^ shift),
      !fitsSigned 32 (v.toInt / 2 ^ shift) || !fitsSigned 32 (roundDiv v.toInt shift)) := by
  simp only [extractTrunc, extractOverflows_shiftGuarded, extractOverflows_rounded]
  rw [extractLsb'_eq_ofInt (by decide), toInt_shiftGuarded, pow_one, guarded_div_two]

/-- The rounded word. -/
theorem extractLsb'_rounded (v : DWord) (shift : Nat) :
    (shiftGuarded v shift + 1#65).extractLsb' 1 32 = BitVec.ofInt 32 (roundDiv v.toInt shift) := by
  rw [extractLsb'_eq_ofInt (by decide), toInt_shiftGuarded_add_one, pow_one, guarded_div_eq_roundDiv]

/-- R288 in exact integers. -/
theorem extractRound_eq (v : DWord) (shift : Nat) : extractRound v shift =
    (BitVec.ofInt 32 (roundDiv v.toInt shift),
      !fitsSigned 32 (v.toInt / 2 ^ shift) || !fitsSigned 32 (roundDiv v.toInt shift)) := by
  simp only [extractRound, extractOverflows_shiftGuarded, extractOverflows_rounded, extractLsb'_rounded]

/-- The sign of the rounded value is bit 64. -/
theorem getLsbD_rounded_sign (v : DWord) (shift : Nat) :
    (shiftGuarded v shift + 1#65).getLsbD 64 = decide (roundDiv v.toInt shift < 0) := by
  have hsign := BitVec.msb_eq_toInt (x := shiftGuarded v shift + 1#65)
  rw [BitVec.msb_eq_getLsbD_last, toInt_shiftGuarded_add_one] at hsign
  rw [hsign, ← guarded_div_eq_roundDiv, decide_eq_decide]
  omega

/-- R289 in exact integers: where the rounded value is no word, its sign tells the bound it has passed. -/
theorem extractRoundSat_eq (v : DWord) (shift : Nat) : extractRoundSat v shift =
    (BitVec.ofInt 32 (clampSigned 32 (roundDiv v.toInt shift)),
      !fitsSigned 32 (v.toInt / 2 ^ shift) || !fitsSigned 32 (roundDiv v.toInt shift)) := by
  simp only [extractRoundSat, extractOverflows_shiftGuarded, extractOverflows_rounded, extractLsb'_rounded,
    getLsbD_rounded_sign, Prod.mk.injEq, and_true]
  change _ = (saturateSigned 32 (roundDiv v.toInt shift)).1
  cases hf : fitsSigned 32 (roundDiv v.toInt shift) with
  | true =>
    rw [saturateSigned_of_fits hf]
    rfl
  | false =>
    rw [fitsSigned_eq_false_iff] at hf
    by_cases hneg : roundDiv v.toInt shift < 0
    · rw [saturateSigned_of_lt (by omega), decide_eq_true hneg]
      rfl
    · rw [saturateSigned_of_gt (by omega), decide_eq_false hneg]
      rfl

/-- R294 by its three cases. -/
theorem extractHalfSat_eq (v : DWord) (shift : Nat) : extractHalfSat v shift =
    (BitVec.ofInt 32 (clampSigned 16 (v.toInt / 2 ^ shift)), !fitsSigned 16 (v.toInt / 2 ^ shift)) := by
  have ht : (v.sshiftRight shift).toInt = v.toInt / 2 ^ shift := by
    rw [BitVec.toInt_sshiftRight, Int.shiftRight_eq_div_pow, Nat.cast_pow, Nat.cast_two]
  simp only [extractHalfSat, extractLsb'_eq_ofInt (k := 0) (n := 32) (m := 64) (by decide), ht, pow_zero, Int.ediv_one]
  generalize v.toInt / 2 ^ shift = x
  by_cases habove : x > 0x7FFF
  · have hclamp : clampSigned 16 x = 0x7FFF := by unfold clampSigned; omega
    rw [if_pos habove, hclamp, fitsSigned_eq_false_iff.mpr (.inr (by omega))]
    rfl
  · rw [if_neg habove]
    by_cases hbelow : x < -0x8000
    · have hclamp : clampSigned 16 x = -0x8000 := by unfold clampSigned; omega
      rw [if_pos hbelow, hclamp, fitsSigned_eq_false_iff.mpr (.inl (by omega))]
      rfl
    · have hclamp : clampSigned 16 x = x := by unfold clampSigned; omega
      rw [if_neg hbelow, hclamp, fitsSigned_eq_true_iff.mpr (by omega)]
      rfl

/-! ### Shifts by a signed amount (R308) -/

/-- A right shift divides, a left shift multiplies. -/
theorem shiftSigned_eq (v : DWord) (amount : BitVec 6) : shiftSigned v amount =
    if 0 ≤ amount.toInt then BitVec.ofNat 64 (v.toNat / 2 ^ amount.toInt.toNat)
    else BitVec.ofNat 64 (v.toNat * 2 ^ (-amount.toInt).toNat) := by
  have hval := amount.toInt_eq_toNat_cond
  have hlt := amount.isLt
  rw [shiftSigned, BitVec.msb_eq_toInt]
  by_cases hneg : amount.toInt < 0
  · have hleft : (-amount).toNat = (-amount.toInt).toNat := by
      rw [BitVec.toNat_neg]
      omega
    rw [if_pos (decide_eq_true hneg), if_neg (Int.not_le.mpr hneg), ← hleft]
    apply BitVec.eq_of_toNat_eq
    rw [BitVec.toNat_shiftLeft, BitVec.toNat_ofNat, Nat.shiftLeft_eq]
  · have hright : amount.toNat = amount.toInt.toNat := by omega
    rw [if_neg (by simpa using hneg), if_pos (Int.not_lt.mp hneg), ← hright]
    apply eq_ofNat_of_toNat_eq
    rw [BitVec.toNat_ushiftRight, Nat.shiftRight_eq_div_pow]

end Sys2Proof.Machine
end

section
/-!
Products into an accumulator (`44_accumulator_access.md` R300, R302 to R307) and the fields a mask selects (R310, R311).
-/

namespace Sys2Proof.Machine

/-! ### Products of words -/

theorem umul_eq_ofInt {n k : Nat} (m : Nat) (a : BitVec n) (b : BitVec k) :
    umul m a b = BitVec.ofInt m (uint a * uint b) := by
  rw [umul, uint, uint, ← Nat.cast_mul, BitVec.ofInt_natCast]

/-- An instruction that ends in a write defined on word operands only (R300), `mark` being what it does besides. -/
theorem exec_of_setAccWords {i : Instr} {s : State} {ac : Acc} {rs rt : Reg} {v result : DWord} (mark : State → State)
    (he : exec i s = ordinary i.isaTag i s (mark (s.setAccWords ac rs rt v))) (hv : v = result)
    (h : Available i s) :
    (s.gpr rs = BitVec.ofInt 64 (s.word rs).toInt ∧ s.gpr rt = BitVec.ofInt 64 (s.word rt).toInt →
      exec i s = .next (mark (s.setAcc ac result)).advance) ∧
    (¬ (s.gpr rs = BitVec.ofInt 64 (s.word rs).toInt ∧ s.gpr rt = BitVec.ofInt 64 (s.word rt).toInt) →
      ∃ hi lo : DWord, exec i s = .next (mark ((s.setHiLo ac hi lo).drawn 2)).advance) := by
  rw [← notWordValue_eq_false_iff, ← notWordValue_eq_false_iff]
  rcases s.setAccWords_cases ac rs rt v with ⟨hw, e⟩ | ⟨hn, e⟩ <;> rw [e] at he
  · exact ⟨fun _ => exec_of_ordinary he (by rw [hv]) h, fun hn => absurd hw hn⟩
  · refine ⟨fun hw => ?_, fun _ => ⟨_, _, exec_of_ordinary he rfl h⟩⟩
    rw [hw.1, hw.2, or_self] at hn
    exact absurd hn Bool.false_ne_true

/-! ### Masks of `DSPControl` (R310, R311) -/

/-- A field takes part in the mask where its selecting bit is set. -/
theorem getLsbD_ite_fieldMask (b : Bool) (f : Word) (n : Nat) :
    (if b = true then f else 0#32).getLsbD n = (b && f.getLsbD n) := by
  cases b with
  | true => rw [if_pos rfl, Bool.true_and]
  | false => rw [if_neg Bool.false_ne_true, BitVec.getLsbD_zero, Bool.false_and]

/-- The places of the six fields (R31). -/
theorem getLsbD_fieldPlaces : ∀ n < 32,
    (0x0000007F#32).getLsbD n = decide (n ≤ 6) ∧
    (0x00001F80#32).getLsbD n = (decide (7 ≤ n) && decide (n ≤ 12)) ∧
    (0x00002000#32).getLsbD n = decide (n = 13) ∧
    (0x00FF0000#32).getLsbD n = (decide (16 ≤ n) && decide (n ≤ 23)) ∧
    (0xFF000000#32).getLsbD n = (decide (24 ≤ n) && decide (n ≤ 31)) ∧
    (0x00004000#32).getLsbD n = decide (n = 14) := by
  decide

/-- The mask selects nothing above `DSPControl`. -/
theorem maskSelects_of_ge (mask : BitVec 10) {n : Nat} (h : 32 ≤ n) : maskSelects mask n = false := by
  simp only [maskSelects, decide_eq_false (by omega : ¬ n ≤ 6), decide_eq_false (by omega : ¬ n ≤ 12),
    decide_eq_false (by omega : ¬ n = 13), decide_eq_false (by omega : ¬ n ≤ 23),
    decide_eq_false (by omega : ¬ n ≤ 31), decide_eq_false (by omega : ¬ n = 14), Bool.and_false, Bool.or_false]

/-- The model's mask has exactly the selected bits. -/
theorem getLsbD_controlMask (mask : BitVec 10) (n : Nat) : (controlMask mask).getLsbD n = maskSelects mask n := by
  by_cases hn : n < 32
  · obtain ⟨hpos, hscount, hcarry, houflag, hccond, hefi⟩ := getLsbD_fieldPlaces n hn
    simp only [controlMask, BitVec.getLsbD_or, getLsbD_ite_fieldMask, hpos, hscount, hcarry, houflag, hccond, hefi,
      maskSelects, Bool.and_assoc]
  · have hn := Nat.not_lt.mp hn
    rw [BitVec.getLsbD_of_ge _ _ hn, maskSelects_of_ge mask hn]

/-- What RDDSP reads. -/
theorem getLsbD_masked (d : Word) (mask : BitVec 10) (n : Nat) :
    ((d &&& controlMask mask).setWidth 64).getLsbD n = (maskSelects mask n && d.getLsbD n) := by
  rw [BitVec.getLsbD_setWidth, BitVec.getLsbD_and, getLsbD_controlMask, Bool.and_comm (d.getLsbD n)]
  by_cases hn : n < 64
  · rw [decide_eq_true hn, Bool.true_and]
  · rw [decide_eq_false hn, maskSelects_of_ge mask (by omega)]
    rfl

/-- What WRDSP leaves. -/
theorem getLsbD_merged (d w : Word) (mask : BitVec 10) {n : Nat} (hn : n < 32) :
    ((d &&& ~~~controlMask mask) ||| (w &&& controlMask mask)).getLsbD n =
      if maskSelects mask n then w.getLsbD n else d.getLsbD n := by
  rw [BitVec.getLsbD_or, BitVec.getLsbD_and, BitVec.getLsbD_and, BitVec.getLsbD_not, getLsbD_controlMask,
    decide_eq_true hn]
  cases maskSelects mask n <;> simp

theorem State.getLsbD_word (s : State) (r : Reg) {n : Nat} (hn : n < 32) :
    (s.word r).getLsbD n = (s.gpr r).getLsbD n := by
  rw [State.word, BitVec.getLsbD_extractLsb', decide_eq_true hn, Bool.true_and, Nat.zero_add]

end Sys2Proof.Machine
end

section
/-!
The instructions of `44_accumulator_access.md`: each is ordinary, and its effect in exact integers or bit by bit follows
from its helper's.
-/

namespace Sys2Proof.Machine

/-- Settles O45: the test of validity splits each extract; the V forms take a size below 32 from the register. -/
theorem extractFieldResults : Obligations.ExtractFieldResults := by
  rintro rt rs ac size start s hstart
  rw [← s.toNat_posLow] at hstart
  subst hstart
  rw [← s.toNat_amount]
  have hamount : ((s.word rs).extractLsb' 0 5).toNat < 64 := (BitVec.isLt _).trans (by decide)
  refine ⟨fun hs => exec_of_extract rfl fun h => ?extp, fun hs => exec_of_extract rfl fun h => ?extpdp, ?extpv,
    ?extpdpv⟩
  case extp => rw [s.extract_of_le rt _ _ (by omega) h, signFromWord_ofNat]
  case extpdp => exact s.extract_decrement_of_le rt _ _ (by omega) h
  case extpv =>
    rintro rfl
    exact exec_of_extract rfl fun h => s.extract_of_le rt _ _ hamount h
  case extpdpv =>
    rintro rfl
    exact exec_of_extract rfl fun h => s.extract_decrement_of_le rt _ _ hamount h

/-- Settles O46: each helper's quotient, rounding and clamp in exact integers; the V forms take the same amounts from a
register. -/
theorem extractWordResults : Obligations.ExtractWordResults := by
  intro rt rs ac shift s
  rw [← s.toNat_amount]
  refine ⟨fun _ => exec_of_ordinary rfl ?_, fun _ => exec_of_ordinary rfl ?_, fun _ => exec_of_ordinary rfl ?_,
    fun _ => exec_of_ordinary rfl ?_, ?_, ?_, ?_, ?_⟩
  · rw [extractTrunc_eq]
  · rw [extractRound_eq]
  · rw [extractRoundSat_eq]
  · rw [extractHalfSat_eq]
  · rintro rfl
    exact exec_of_ordinary rfl (by rw [extractTrunc_eq])
  · rintro rfl
    exact exec_of_ordinary rfl (by rw [extractRound_eq])
  · rintro rfl
    exact exec_of_ordinary rfl (by rw [extractRoundSat_eq])
  · rintro rfl
    exact exec_of_ordinary rfl (by rw [extractHalfSat_eq])

/-- Settles O47: a move to one half of an unread ac0 draws the other; MTHLIP by its test of `pos`. -/
theorem hiLoMoveResults : Obligations.HiLoMoveResults := by
  intro rd rs ac s
  rw [← s.toNat_pos, ← extractLsb'_zero_eq_ofNat]
  refine ⟨exec_of_ordinary rfl rfl, exec_of_ordinary rfl rfl, fun ha h => exec_of_ordinary rfl (if_neg h) ha,
    fun ha h => ⟨s.any 64 0, exec_of_ordinary rfl (if_pos h) ha⟩, fun ha h => exec_of_ordinary rfl (if_neg h) ha,
    fun ha h => ⟨s.any 64 0, exec_of_ordinary rfl (if_pos h) ha⟩, fun ha h => exec_of_ordinary rfl ?_ ha,
    fun ha h => ⟨s.any 7 0, exec_of_ordinary rfl (if_pos h) ha⟩⟩
  rw [if_neg (Nat.not_lt.mpr h), BitVec.ofNat_add, BitVec.ofNat_toNat, BitVec.setWidth_eq]
  rfl

/-- Settles O48: the exact products modulo 2^64, with the operands' test made once for all six. -/
theorem baseMultiplyResults : Obligations.BaseMultiplyResults := by
  intro ac rs rt s
  refine ⟨exec_of_setAccWords id rfl ?_, exec_of_setAccWords id rfl ?_, exec_of_setAccWords id rfl ?_,
    exec_of_setAccWords id rfl ?_, exec_of_setAccWords (·.markAcUnread ac) rfl ?_,
    exec_of_setAccWords (·.markAcUnread ac) rfl ?_⟩ <;>
    simp only [umul_eq_ofInt, smul, BitVec.ofInt_add, ofInt_sub, BitVec.ofInt_toInt]

/-- Settles O49: the amount of SHILOV is the low six bits of the register. -/
theorem accumulatorShiftResults : Obligations.AccumulatorShiftResults := by
  intro ac rs amount s
  rw [← s.extractLsb'_word rs (by decide)]
  refine ⟨exec_of_ordinary rfl ?_, ?_⟩
  · rw [shiftSigned_eq]
  · rintro ha rfl
    exact exec_of_ordinary rfl (by rw [shiftSigned_eq]) ha

/-- Settles O50: the model's mask has the bits the statement selects. -/
theorem controlRegisterAccess : Obligations.ControlRegisterAccess := by
  intro rd rs mask s
  refine ⟨fun ha => ⟨_, exec_of_ordinary rfl rfl ha, getLsbD_masked s.dspControl mask⟩,
    fun ha => ⟨_, exec_of_ordinary rfl rfl ha, fun n hn => ?_⟩⟩
  rw [getLsbD_merged _ _ _ hn, s.getLsbD_word rs hn]

end Sys2Proof.Machine
end

section
/-!
Memory read as exact integers (`20_memory.md` R52, R53): a join in the machine's byte order is the value of the bytes
from the first one's address; the two address sums; and the answer of a load that passes its checks.
-/

namespace Sys2Proof.Machine

/-! ### The bytes of a read -/

/-- The bytes from an address are those of a first part and those from where it ends. -/
theorem bytesValue_add (s : State) (a : Addr) (m n : Nat) : bytesValue s a (m + n) =
    if s.params.bigEndian then bytesValue s a m * 2 ^ (8 * n) + bytesValue s (a + BitVec.ofNat 64 m) n
    else bytesValue s a m + bytesValue s (a + BitVec.ofNat 64 m) n * 2 ^ (8 * m) := by
  induction n with
  | zero => cases s.params.bigEndian <;> simp [bytesValue]
  | succ n ih =>
    have haddr : a + BitVec.ofNat 64 m + BitVec.ofNat 64 n = a + BitVec.ofNat 64 (m + n) := by
      rw [BitVec.add_assoc, BitVec.ofNat_add]
    rw [← Nat.add_assoc, bytesValue, bytesValue, ih, haddr]
    cases s.params.bigEndian with
    | false =>
      simp only [Bool.false_eq_true, if_false]
      ring
    | true =>
      simp only [if_true]
      ring

/-- Two reads of `k` bytes, joined in the machine's order, are one of `k + k`. -/
theorem State.toNat_joinOrdered {s : State} {a : Addr} {k : Nat} {lower upper : BitVec (8 * k)}
    (hl : lower.toNat = bytesValue s a k) (hu : upper.toNat = bytesValue s (a + BitVec.ofNat 64 k) k) :
    (joinOrdered s.params.bigEndian lower upper).toNat = bytesValue s a (k + k) := by
  rw [bytesValue_add, ← hl, ← hu]
  cases s.params.bigEndian with
  | false => exact (toNat_append_eq_add upper lower).trans (Nat.add_comm _ _)
  | true => exact toNat_append_eq_add lower upper

theorem State.toNat_readByte (s : State) (a : Addr) : (s.readByte a).toNat = bytesValue s a 1 := by
  cases s.params.bigEndian <;> simp [bytesValue]

theorem State.toNat_read16 (s : State) (a : Addr) : (s.read16 a).toNat = bytesValue s a 2 :=
  State.toNat_joinOrdered (k := 1) (s.toNat_readByte a) (s.toNat_readByte _)

theorem State.toNat_read32 (s : State) (a : Addr) : (s.read32 a).toNat = bytesValue s a 4 :=
  State.toNat_joinOrdered (k := 2) (s.toNat_read16 a) (s.toNat_read16 _)

theorem State.toNat_read64 (s : State) (a : Addr) : (s.read64 a).toNat = bytesValue s a 8 :=
  State.toNat_joinOrdered (k := 4) (s.toNat_read32 a) (s.toNat_read32 _)

/-! ### The address and the frame of a load -/

theorem State.wordAddress_eq (s : State) (index base : Reg) : s.wordAddress index base =
    BitVec.ofInt 64 (BitVec.ofNat 32 ((s.gpr index).toNat + (s.gpr base).toNat)).toInt := by
  rw [BitVec.ofNat_add, ← extractLsb'_zero_eq_ofNat, ← extractLsb'_zero_eq_ofNat]
  rfl

theorem State.dwordAddress_eq (s : State) (index base : Reg) : s.dwordAddress index base =
    BitVec.ofNat 64 ((s.gpr index).toNat + (s.gpr base).toNat) := by
  rw [BitVec.ofNat_add, BitVec.ofNat_toNat, BitVec.ofNat_toNat, BitVec.setWidth_eq, BitVec.setWidth_eq]
  rfl

/-- An available load that is aligned and not faulted ends in its effect, moved on. -/
theorem loading_of_available {i : Instr} {s : State} {a : Addr} {n : Nat} (h : Available i s)
    (hal : a.toNat % n = 0) (hf : memFault s.params.memFault a n = none) (after : State) :
    loading i.isaTag i s a n after = .next after.advance := by
  rw [loading, (dspCheck_eq_none_iff i s).mpr h]
  simp only [(loadCheck_eq_none_iff s a n).mpr ⟨hal, hf⟩]

end Sys2Proof.Machine
end

section
/-!
The indexed loads of `45_loads.md` where nothing faults.
-/

namespace Sys2Proof.Machine

/-- An available load that passes the checks on its address answers its effect, moved on, in whatever form the effect
is given. -/
theorem exec_of_loading {i : Instr} {s effect after : State} {a : Addr} {n : Nat}
    (he : exec i s = loading i.isaTag i s a n effect) (ha : effect = after) (h : Available i s)
    (hal : a.toNat % n = 0) (hf : memFault s.params.memFault a n = none) : exec i s = .next after.advance := by
  rw [he, loading_of_available h hal hf, ha]

/-- Settles O51: the sum of the statement is the model's address, and each read is the value of its bytes. -/
theorem loadResults : Obligations.LoadResults := by
  intro rd index base a s
  rw [← s.wordAddress_eq, ← s.dwordAddress_eq]
  refine ⟨?lbux, ?lhx, ?lwx, ?ldx⟩
  case lbux =>
    rintro rfl h hf
    refine ⟨exec_of_loading rfl ?_ h (Nat.mod_one _) hf, rfl⟩
    rw [← s.toNat_readByte, BitVec.ofNat_toNat]
  case lhx =>
    rintro rfl h hal hf
    refine ⟨exec_of_loading rfl ?_ h hal hf, rfl⟩
    rw [← eq_ofNat_of_toNat_eq (s.toNat_read16 _), BitVec.signExtend]
  case lwx =>
    rintro rfl h hal hf
    refine ⟨exec_of_loading rfl ?_ h hal hf, rfl⟩
    rw [← eq_ofNat_of_toNat_eq (s.toNat_read32 _), BitVec.signExtend]
  case ldx =>
    rintro rfl h hal hf
    refine ⟨exec_of_loading rfl ?_ h hal hf, rfl⟩
    rw [← eq_ofNat_of_toNat_eq (s.toNat_read64 _)]

end Sys2Proof.Machine
end

section
/-!
Products into a general register (`46_multiply_gpr.md` R354, R357, R359, R361 to R363) in exact integers. The helpers
that keep the high half of a fractional product differ in their width and in what they add before dropping the low half;
what they answer is said here once.
-/

namespace Sys2Proof.Machine

/-! ### The high half of a fractional product (R357, R359, R361, R362) -/

/-- The product of two `n`-bit values doubled, `r` added, the low half dropped; -1.0 times -1.0 gives the largest value
and the flag. -/
def mulHigh {n : Nat} (r : Int) (a b : BitVec n) : Flagged n :=
  if a = BitVec.intMin n ∧ b = BitVec.intMin n then (BitVec.intMax n, true)
  else ((smul (2 * n) a b <<< 1 + BitVec.ofInt (2 * n) r).extractLsb' n n, false)

theorem mulTruncQ15_eq_mulHigh (a b : Half) : mulTruncQ15 a b = mulHigh 0 a b := by
  rw [mulHigh, BitVec.ofInt_ofNat, BitVec.add_zero]
  rfl

theorem mulTruncQ31_eq_mulHigh (a b : Word) : mulTruncQ31 a b = mulHigh 0 a b := by
  rw [mulHigh, BitVec.ofInt_ofNat, BitVec.add_zero]
  rfl

theorem mulRoundQ15_eq_mulHigh (a b : Half) : mulRoundQ15 a b = mulHigh (2 ^ 15) a b := rfl

theorem mulRoundQ31_eq_mulHigh (a b : Word) : mulRoundQ31 a b = mulHigh (2 ^ 31) a b := rfl

/-- But for the square of the minimum, one factor is below its bound, which leaves room for rounding. -/
theorem toInt_mul_toInt_le {n : Nat} (hn : 0 < n) {a b : BitVec n}
    (h : ¬(a = BitVec.intMin n ∧ b = BitVec.intMin n)) :
    a.toInt * b.toInt ≤ 2 ^ (n - 1) * (2 ^ (n - 1) - 1) := by
  have hp : (0 : Int) ≤ 2 ^ (n - 1) := by positivity
  calc a.toInt * b.toInt ≤ |a.toInt| * |b.toInt| := abs_mul a.toInt b.toInt ▸ le_abs_self _
    _ ≤ 2 ^ (n - 1) * (2 ^ (n - 1) - 1) := by
      rcases not_and_or.mp h with ha | hb
      · rw [mul_comm]
        exact mul_le_mul (abs_toInt_le b) (Int.le_sub_one_of_lt (abs_toInt_lt hn ha)) (abs_nonneg _) hp
      · exact mul_le_mul (abs_toInt_le a) (Int.le_sub_one_of_lt (abs_toInt_lt hn hb)) (abs_nonneg _) hp

/-- With room for rounding, the doubled product is a value of `2 * n` signed bits. -/
theorem doubled_product_bounds {n : Nat} (hn : 0 < n) {r : Int} (hr : 0 ≤ r) (hr' : r < 2 ^ n) {a b : BitVec n}
    (h : ¬(a = BitVec.intMin n ∧ b = BitVec.intMin n)) :
    -2 ^ (n - 1) * 2 ^ n ≤ 2 * (a.toInt * b.toInt) + r ∧ 2 * (a.toInt * b.toInt) + r < 2 ^ (n - 1) * 2 ^ n := by
  have hhi := toInt_mul_toInt_le hn h
  have hlo : -(2 ^ (n - 1) * 2 ^ (n - 1)) ≤ a.toInt * b.toInt := by
    rw [← pow_add, show n - 1 + (n - 1) = n * 2 - 2 by omega]
    exact BitVec.le_toInt_mul_toInt
  rw [← mul_pow_sub_one hn.ne' (2 : Int)] at hr' ⊢
  constructor <;> linarith

/-- The sum of the doubled product and `r` is exact. -/
theorem toInt_doubled_product {n : Nat} (hn : 0 < n) {r : Int} (hr : 0 ≤ r) (hr' : r < 2 ^ n) {a b : BitVec n}
    (h : ¬(a = BitVec.intMin n ∧ b = BitVec.intMin n)) :
    (smul (2 * n) a b <<< 1 + BitVec.ofInt (2 * n) r).toInt = 2 * (a.toInt * b.toInt) + r := by
  obtain ⟨hlo, hhi⟩ := doubled_product_bounds hn hr hr' h
  have hbound : (2 : Int) ^ (2 * n - 1) = 2 ^ (n - 1) * 2 ^ n := by
    rw [← pow_add]
    congr 1
    omega
  rw [smul_shiftLeft_one, ← BitVec.ofInt_add]
  exact BitVec.toInt_ofInt_eq_self (by omega) (by rwa [hbound, ← neg_mul]) (by rwa [hbound])

/-- Only the square of the minimum is clamped. -/
theorem fracClamped_eq {n : Nat} (hn : 0 < n) (a b : BitVec n) :
    fracClamped a b = decide (a = BitVec.intMin n ∧ b = BitVec.intMin n) := by
  have hflag : (mulFrac a b).2 = fracClamped a b := by rw [mulFrac_eq hn]
  rw [← hflag, mulFrac]
  split
  next hmin => exact (decide_eq_true hmin).symm
  next hmin => exact (decide_eq_false hmin).symm

/-- The high half is the exact doubled product divided by `2 ^ n` after adding `r`, clamped. -/
theorem mulHigh_eq {n : Nat} (hn : 0 < n) {r : Int} (hr : 0 ≤ r) (hr' : r < 2 ^ n) (a b : BitVec n) :
    mulHigh r a b =
      (BitVec.ofInt n (clampSigned n ((2 * (a.toInt * b.toInt) + r) / 2 ^ n)), fracClamped a b) := by
  have hpos : (0 : Int) < 2 ^ n := by positivity
  rw [fracClamped_eq hn, mulHigh]
  split
  next hmin =>
    have hhigh : 2 ^ (n - 1) ≤ (2 * (a.toInt * b.toInt) + r) / 2 ^ n := by
      apply Int.le_ediv_of_mul_le hpos
      rw [hmin.1, hmin.2, BitVec.toInt_intMin_of_pos hn, ← mul_pow_sub_one hn.ne' (2 : Int)]
      linarith
    have hvalue := congrArg Prod.fst (saturateSigned_of_gt (Int.sub_one_lt_of_le hhigh))
    exact Prod.ext hvalue.symm (decide_eq_true hmin).symm
  next hmin =>
    obtain ⟨hlo, hhi⟩ := doubled_product_bounds hn hr hr' hmin
    have hfits : fitsSigned n ((2 * (a.toInt * b.toInt) + r) / 2 ^ n) = true :=
      fitsSigned_eq_true_iff.mpr
        ⟨Int.le_ediv_of_mul_le hpos hlo, Int.le_sub_one_of_lt (Int.ediv_lt_of_lt_mul hpos hhi)⟩
    have hvalue := congrArg Prod.fst (saturateSigned_of_fits hfits)
    rw [extractLsb'_eq_ofInt (by omega), toInt_doubled_product hn hr hr' hmin]
    exact Prod.ext hvalue.symm (decide_eq_false hmin).symm

theorem mulTruncQ15_eq : mulTruncQ15 =
    fun a b => (BitVec.ofInt 16 (clampSigned 16 (2 * (a.toInt * b.toInt) / 2 ^ 16)), fracClamped a b) := by
  funext a b
  rw [mulTruncQ15_eq_mulHigh, mulHigh_eq (by decide) le_rfl (by decide), Int.add_zero]

theorem mulRoundQ15_eq : mulRoundQ15 =
    fun a b => (BitVec.ofInt 16 (clampSigned 16 (roundDiv (2 * (a.toInt * b.toInt)) 16)), fracClamped a b) := by
  funext a b
  rw [mulRoundQ15_eq_mulHigh, mulHigh_eq (by decide) (by decide) (by decide), roundDiv, if_neg (by decide)]

theorem mulTruncQ31_eq (a b : Word) : mulTruncQ31 a b =
    (BitVec.ofInt 32 (clampSigned 32 (2 * (a.toInt * b.toInt) / 2 ^ 32)), fracClamped a b) := by
  rw [mulTruncQ31_eq_mulHigh, mulHigh_eq (by decide) le_rfl (by decide), Int.add_zero]

theorem mulRoundQ31_eq (a b : Word) : mulRoundQ31 a b =
    (BitVec.ofInt 32 (clampSigned 32 (roundDiv (2 * (a.toInt * b.toInt)) 32)), fracClamped a b) := by
  rw [mulRoundQ31_eq_mulHigh, mulHigh_eq (by decide) (by decide) (by decide), roundDiv, if_neg (by decide)]

/-! ### Products of bytes and halfwords (R354) -/

/-- The 26-bit product is exact, and its top ten bits say whether it fits. -/
theorem mulByteHalf_eq (a : Byte) (b : Half) : mulByteHalf a b = saturateUnsigned 16 (uint a * uint b) := by
  have hab : a.toNat * b.toNat < 2 ^ 24 := Nat.mul_lt_mul'' a.isLt b.isLt (c := 2 ^ 8) (d := 2 ^ 16)
  have hprod : uint a * uint b = ((a.toNat * b.toNat : Nat) : Int) := (Nat.cast_mul _ _).symm
  have htop : (umul 26 a b).extractLsb' 16 10 ≠ 0#10 ↔ 2 ^ 16 - 1 < uint a * uint b := by
    rw [umul, Ne, ← BitVec.toNat_inj, BitVec.extractLsb'_toNat, Nat.shiftRight_eq_div_pow, BitVec.toNat_ofNat,
      BitVec.toNat_ofNat, hprod]
    omega
  simp only [mulByteHalf, htop]
  split
  next hbig => exact (saturateUnsigned_of_gt hbig).symm
  next hfit =>
    have hlow : (umul 26 a b).extractLsb' 0 16 = BitVec.ofInt 16 (uint a * uint b) := by
      rw [umul_eq_ofInt, ← BitVec.setWidth_eq_extractLsb' (by decide), setWidth_ofInt (by decide)]
    have hfits : fitsUnsigned 16 (uint a * uint b) = true := fitsUnsigned_eq_true_iff.mpr (by omega)
    rw [saturateUnsigned_of_fits hfits, hlow]

/-! ### Integer products of halfwords (R363) -/

theorem mulWrap16_eq : mulWrap16 = fun a b => wrapSigned 16 (a.toInt * b.toInt) := by
  funext a b
  have hflag : (decide (a.toInt * b.toInt > 0x7FFF) || decide (a.toInt * b.toInt < -0x8000)) =
      !fitsSigned 16 (a.toInt * b.toInt) := by
    rw [Bool.eq_iff_iff, Bool.not_eq_true', fitsSigned_eq_false_iff, Bool.or_eq_true, decide_eq_true_iff,
      decide_eq_true_iff]
    omega
  rw [mulWrap16, hflag]
  rfl

/-- The tests are those of the two bounds. -/
theorem mulSat16_eq : mulSat16 = fun a b => saturateSigned 16 (a.toInt * b.toInt) := by
  funext a b
  by_cases habove : a.toInt * b.toInt > 0x7FFF
  · rw [mulSat16, if_pos habove, saturateSigned_of_gt (by omega)]
    rfl
  · by_cases hbelow : a.toInt * b.toInt < -0x8000
    · rw [mulSat16, if_neg habove, if_pos hbelow, saturateSigned_of_lt (by omega)]
      rfl
    · rw [mulSat16, if_neg habove, if_neg hbelow,
        saturateSigned_of_fits (fitsSigned_eq_true_iff.mpr (by omega))]
      rfl

end Sys2Proof.Machine
end

section
/-!
The instructions of `46_multiply_gpr.md`: each is ordinary, writes its helper's result and leaves two draws in `ac0`.
-/

namespace Sys2Proof.Machine

/-- An available instruction that ends in a flagged word and a free `ac0` (R350 d), in whatever form the word is
given. -/
theorem exec_of_wordFlag_hiLoAny {i : Instr} {s : State} {rd : Reg} {v result : Flagged 32}
    (he : exec i s = ordinary i.isaTag i s ((s.setWordFlag rd 21 v).setHiLoAny 0)) (hv : v = result)
    (ha : Available i s) :
    ∃ h l : DWord, exec i s = .next (((s.setWordFlag rd 21 result).setHiLo 0 h l).drawn 2).advance :=
  ⟨_, _, exec_of_ordinary he (by rw [hv]; rfl) ha⟩

/-- Settles O52: each product is the exact one, narrowed as its helper does; the values in `ac0` are two draws. -/
theorem multiplyToRegisterResults : Obligations.MultiplyToRegisterResults := by
  intro rd rs rt s
  refine ⟨exec_of_wordFlag_hiLoAny rfl ?muleqLeft, exec_of_wordFlag_hiLoAny rfl ?muleqRight,
    exec_of_wordFlag_hiLoAny rfl ?muleuLeft, exec_of_wordFlag_hiLoAny rfl ?muleuRight,
    exec_of_wordFlag_hiLoAny rfl ?mulqRs, exec_of_wordFlag_hiLoAny rfl ?mulqS, exec_of_wordFlag_hiLoAny rfl ?mul,
    exec_of_wordFlag_hiLoAny rfl ?mulS, exec_of_wordFlag_hiLoAny rfl ?mulqSW, exec_of_wordFlag_hiLoAny rfl ?mulqRsW⟩
  case muleqLeft | muleqRight => exact mulFrac_eq (by decide) _ _
  case muleuLeft | muleuRight => rw [mulByteHalf_eq, mulByteHalf_eq]
  case mulqRs => rw [mulRoundQ15_eq]
  case mulqS => rw [mulTruncQ15_eq]
  case mul => rw [mulWrap16_eq]
  case mulS => rw [mulSat16_eq]
  case mulqSW => exact mulTruncQ31_eq _ _
  case mulqRsW => exact mulRoundQ31_eq _ _

end Sys2Proof.Machine
end

section
/-!
Left and right shifts (`47_shifts.md` R371 to R400) in exact integers, for every width: a left shift multiplies by a
power of two, a right shift divides by one, and the sign bits a left shift moves out say whether the product fits.
-/

namespace Sys2Proof.Machine

/-! ### Amounts -/

/-- The low bits of a word in a register, as the amount of a shift. -/
theorem State.toNat_extractLsb'_word (s : State) (r : Reg) {n : Nat} (h : n ≤ 32) :
    ((s.word r).extractLsb' 0 n).toNat = (s.gpr r).toNat % 2 ^ n := by
  rw [s.extractLsb'_word r h, BitVec.toNat_ofNat]

/-! ### Right shifts (R384, R388, R394) -/

theorem ushiftRight_eq_ofNat {n : Nat} (a : BitVec n) (s : Nat) : a >>> s = BitVec.ofNat n (a.toNat / 2 ^ s) :=
  eq_ofNat_of_toNat_eq (by rw [BitVec.toNat_ushiftRight, Nat.shiftRight_eq_div_pow])

theorem sshiftRight_eq_ofInt {n : Nat} (a : BitVec n) (s : Nat) :
    a.sshiftRight s = BitVec.ofInt n (a.toInt / 2 ^ s) := by
  rw [BitVec.sshiftRight_eq, Int.shiftRight_eq_div_pow, Nat.cast_pow, Nat.cast_two]

/-! ### Left shifts (R371, R374, R375, R380) -/

theorem shiftLeft_eq_ofNat {n : Nat} (a : BitVec n) (s : Nat) : a <<< s = BitVec.ofNat n (a.toNat * 2 ^ s) := by
  apply BitVec.eq_of_toNat_eq
  rw [BitVec.toNat_shiftLeft, Nat.shiftLeft_eq, BitVec.toNat_ofNat]

theorem shiftLeft_eq_ofInt {n : Nat} (a : BitVec n) (s : Nat) : a <<< s = BitVec.ofInt n (a.toInt * 2 ^ s) := by
  rw [shiftLeft_eq_ofNat, ← BitVec.ofInt_natCast, Nat.cast_mul, Nat.cast_pow, Nat.cast_two, BitVec.ofInt_mul,
    BitVec.ofInt_mul, BitVec.ofInt_natCast, BitVec.ofNat_toNat, BitVec.setWidth_eq, BitVec.ofInt_toInt]

/-- The discarded bits and the sign are the quotient of what is left of the width. -/
theorem toInt_discarded {n : Nat} (a : BitVec n) (s : Nat) : (discarded a s).toInt = a.toInt / 2 ^ (n - 1 - s) := by
  rw [discarded, BitVec.toInt_sshiftRight, Int.shiftRight_eq_div_pow, Nat.cast_pow, Nat.cast_two]

/-- The discarded bits and the sign are all zeros exactly for the values below what the shift leaves room for. -/
theorem discarded_eq_zero_iff {n : Nat} (a : BitVec n) (s : Nat) :
    discarded a s = 0#n ↔ 0 ≤ a.toInt ∧ a.toInt < 2 ^ (n - 1 - s) := by
  have hp : (0 : Int) < 2 ^ (n - 1 - s) := by positivity
  rw [← BitVec.toInt_inj, toInt_discarded, BitVec.toInt_zero, Int.ediv_eq_iff_of_pos hp]
  omega

/-- They are all ones exactly for the negative values that the shift leaves room for. -/
theorem discarded_eq_allOnes_iff {n : Nat} (hn : 0 < n) (a : BitVec n) (s : Nat) :
    discarded a s = BitVec.allOnes n ↔ -2 ^ (n - 1 - s) ≤ a.toInt ∧ a.toInt < 0 := by
  have hp : (0 : Int) < 2 ^ (n - 1 - s) := by positivity
  have hones : (BitVec.allOnes n).toInt = -1 := by simp [BitVec.toInt_allOnes, hn]
  rw [← BitVec.toInt_inj, toInt_discarded, hones, Int.ediv_eq_iff_of_pos hp]
  omega

/-- A product by `2 ^ s` fits where the factor does in `s` bits less. -/
theorem fitsSigned_mul_two_pow {n s : Nat} (hs : s < n) (x : Int) :
    fitsSigned n (x * 2 ^ s) = true ↔ -2 ^ (n - 1 - s) ≤ x ∧ x < 2 ^ (n - 1 - s) := by
  have hp : (0 : Int) < 2 ^ s := by positivity
  have hsplit : (2 : Int) ^ (n - 1) = 2 ^ (n - 1 - s) * 2 ^ s := by rw [← pow_add, Nat.sub_add_cancel (by omega)]
  rw [fitsSigned_eq_true_iff, Int.le_sub_one_iff, hsplit, ← neg_mul, mul_le_mul_iff_of_pos_right hp,
    mul_lt_mul_iff_of_pos_right hp]

/-- The overflow test of R374 asks whether the exact product fits. -/
theorem shiftOverflows_eq {n s : Nat} (hs : s < n) (a : BitVec n) :
    shiftOverflows a s = !fitsSigned n (a.toInt * 2 ^ s) := by
  have hzero : s = 0 → -2 ^ (n - 1 - s) ≤ a.toInt ∧ a.toInt < 2 ^ (n - 1 - s) := by
    rintro rfl
    exact ⟨a.le_toInt, BitVec.toInt_lt⟩
  rw [Bool.eq_iff_iff, Bool.not_eq_true', Bool.eq_false_iff, Ne, fitsSigned_mul_two_pow hs]
  simp only [shiftOverflows, Bool.and_eq_true, decide_eq_true_eq, Ne, discarded_eq_zero_iff,
    discarded_eq_allOnes_iff (Nat.zero_lt_of_lt hs)]
  omega

theorem shiftLeftS_eq {n s : Nat} (hs : s < n) (a : BitVec n) : shiftLeftS a s = wrapSigned n (a.toInt * 2 ^ s) := by
  rw [shiftLeftS, wrapSigned, shiftOverflows_eq hs, shiftLeft_eq_ofInt]

/-- `sat16ShiftLeft` (R375) and `sat32ShiftLeft` (R380): the sign of the element tells the bound the product passes. -/
theorem satShiftLeft_eq {n s : Nat} (hs : s < n) (a : BitVec n) :
    satShiftLeft a s = saturateSigned n (a.toInt * 2 ^ s) := by
  have hp : (0 : Int) < 2 ^ s := by positivity
  have hmax : (0 : Int) < 2 ^ (n - 1) := by positivity
  rw [satShiftLeft, shiftOverflows_eq hs, BitVec.msb_eq_toInt, shiftLeft_eq_ofInt]
  cases hf : fitsSigned n (a.toInt * 2 ^ s) with
  | true => exact (saturateSigned_of_fits hf).symm
  | false =>
    rw [fitsSigned_eq_false_iff] at hf
    by_cases hneg : a.toInt < 0
    · have hprod := mul_neg_of_neg_of_pos hneg hp
      rw [saturateSigned_of_lt (by omega), decide_eq_true hneg]
      rfl
    · have hprod := mul_nonneg (not_lt.mp hneg) hp.le
      rw [saturateSigned_of_gt (by omega), decide_eq_false hneg]
      rfl

/-- `shift8Left` (R371): the sign counts among the discarded bits, so the flag is that of the unsigned value. -/
theorem shiftLeftU_eq {n s : Nat} (hs : s < n) (a : BitVec n) : shiftLeftU a s =
    (BitVec.ofNat n (a.toNat * 2 ^ s), decide (s ≠ 0 ∧ 2 ^ (n - 1 - s) ≤ a.toNat)) := by
  have hflag : discarded a s ≠ 0#n ↔ 2 ^ (n - 1 - s) ≤ a.toNat := by
    have hval := a.toInt_eq_toNat_cond
    have hcast : ((2 ^ (n - 1 - s) : Nat) : Int) = 2 ^ (n - 1 - s) := Int.natCast_pow 2 (n - 1 - s)
    have hle : 2 ^ (n - 1 - s) ≤ 2 ^ (n - 1) := Nat.pow_le_pow_right two_pos (by omega)
    have hn : 2 ^ n = 2 * 2 ^ (n - 1) := (mul_pow_sub_one (by omega) 2).symm
    rw [Ne, discarded_eq_zero_iff]
    split at hval <;> omega
  unfold shiftLeftU
  split
  next hs0 => simp [hs0]
  next hs0 => simp only [shiftLeft_eq_ofNat, hflag, hs0, ne_eq, not_false_eq_true, true_and]

end Sys2Proof.Machine
end

section
/-!
The instructions of `47_shifts.md`: each is ordinary, and its effect in exact integers follows from its helper's; the V
forms take from a register the amounts that the others have in a field.
-/

namespace Sys2Proof.Machine

/-- Settles O53: the amount is below the width in every form, so each helper's product is the exact one. -/
theorem leftShiftResults : Obligations.LeftShiftResults := by
  intro rd rt rs sa s
  rw [← s.toNat_extractLsb'_word rs (by decide : 3 ≤ 32), ← s.toNat_extractLsb'_word rs (by decide : 4 ≤ 32),
    ← s.toNat_extractLsb'_word rs (by decide : 5 ≤ 32)]
  have h3 : ((s.word rs).extractLsb' 0 3).toNat < 8 := BitVec.isLt _
  have h4 : ((s.word rs).extractLsb' 0 4).toNat < 16 := BitVec.isLt _
  have h5 : ((s.word rs).extractLsb' 0 5).toNat < 32 := BitVec.isLt _
  refine ⟨fun h => exec_of_ordinary rfl ?_, ?_, fun h => exec_of_ordinary rfl ?_, ?_,
    fun h => exec_of_ordinary rfl ?_, ?_, fun h => exec_of_ordinary rfl ?_, ?_⟩
  · simp only [shiftLeftU_eq h]
  · rintro rfl
    exact exec_of_ordinary rfl (by simp only [shiftLeftU_eq h3])
  · simp only [shiftLeftS_eq h]
  · rintro rfl
    exact exec_of_ordinary rfl (by simp only [shiftLeftS_eq h4])
  · simp only [satShiftLeft_eq h]
  · rintro rfl
    exact exec_of_ordinary rfl (by simp only [satShiftLeft_eq h4])
  · rw [satShiftLeft_eq h]
  · rintro rfl
    exact exec_of_ordinary rfl (by rw [satShiftLeft_eq h5])

/-- Settles O54: each shift is the division of its element, whatever the amount. -/
theorem rightShiftResults : Obligations.RightShiftResults := by
  intro rd rt rs sa s
  rw [← s.toNat_extractLsb'_word rs (by decide : 3 ≤ 32), ← s.toNat_extractLsb'_word rs (by decide : 4 ≤ 32),
    ← s.toNat_extractLsb'_word rs (by decide : 5 ≤ 32)]
  simp only [← ushiftRight_eq_ofNat, ← sshiftRight_eq_ofInt, ← roundShift_eq]
  refine ⟨fun _ => exec_of_ordinary rfl rfl, ?_, fun _ => exec_of_ordinary rfl rfl, ?_,
    fun _ => exec_of_ordinary rfl rfl, ?_, fun _ => exec_of_ordinary rfl rfl, ?_,
    fun _ => exec_of_ordinary rfl rfl, ?_, fun _ => exec_of_ordinary rfl rfl, ?_,
    fun _ => exec_of_ordinary rfl rfl, ?_⟩ <;>
  · rintro rfl
    exact exec_of_ordinary rfl rfl

end Sys2Proof.Machine
end

section
/-!
When an instruction answers a next state, which traps `DSP_CHECK` raises and what every trap hands over
(`60_exceptions.md` R412 to R420, R424): each is read off the frame the instruction runs in.
-/

namespace Sys2Proof.Machine

open Sys2Proof.Config

/-! ### Completion (R412, R416, R417) -/

/-- What an instruction needs, besides being available, to answer a next state: a branch that it is in no slot (R203,
R205), a load that its address is aligned and not faulted (R340 b). -/
def Unobstructed (i : Instr) (s : State) : Prop :=
  (isBranch i = true → s.slot = .none) ∧
  ∀ a n, loadAccess s i = some (a, n) → a.toNat % n = 0 ∧ memFault s.params.memFault a n = none

theorem exec_completes {i : Instr} {s : State} (ha : Available i s) (hu : Unobstructed i s) :
    ∃ t, exec i s = .next t := by
  obtain ⟨hslot, haddr⟩ := hu
  rcases exec_frame i s with ⟨-, -, after, e⟩ | ⟨a, n, after, -, hl, e⟩ | ⟨hb, -, after, e⟩
  · exact ⟨_, e.trans (ordinary_of_available ha after)⟩
  · obtain ⟨hal, hf⟩ := haddr a n hl
    exact ⟨_, e.trans (loading_of_available ha hal hf after)⟩
  · exact ⟨_, e.trans (branching_of_available (hslot hb) ha after)⟩

theorem available_and_unobstructed_of_exec_next {i : Instr} {s t : State} (h : exec i s = .next t) :
    Available i s ∧ Unobstructed i s := by
  rcases exec_frame i s with ⟨hb, hl, after, e⟩ | ⟨a, n, after, hb, hl, e⟩ | ⟨-, hl, after, e⟩
  · obtain ⟨hc, -⟩ := ordinary_next (e.symm.trans h)
    exact ⟨(dspCheck_eq_none_iff i s).mp hc, by simp [hb], by simp [hl]⟩
  · obtain ⟨hc, haddr, -⟩ := loading_next (e.symm.trans h)
    refine ⟨(dspCheck_eq_none_iff i s).mp hc, by simp [hb], fun a' n' hl' => ?_⟩
    cases hl.symm.trans hl'
    exact haddr
  · obtain ⟨hc, hslot, -⟩ := branching_next (e.symm.trans h)
    exact ⟨(dspCheck_eq_none_iff i s).mp hc, fun _ => hslot, by simp [hl]⟩

/-- Settles O11: the frames answer a next state where all their checks pass, and nowhere else. -/
theorem instructionsCompleteExactlyWhenAllowed : Obligations.InstructionsCompleteExactlyWhenAllowed := fun _ _ =>
  ⟨fun ha hslot haddr => exec_completes ha ⟨hslot, haddr⟩, fun _ => available_and_unobstructed_of_exec_next⟩

/-! ### The traps of `DSP_CHECK` (R412, R414, R415) -/

/-- In every frame, what `DSP_CHECK` raises is raised before anything else but the slot of a branch is looked at. -/
theorem exec_of_dspCheck {i : Instr} {s : State} {c : Cause} (hslot : isBranch i = true → s.slot = .none)
    (hc : dspCheck i.isaTag s = some c) : exec i s = raise c (instrInfo i) s := by
  rcases exec_frame i s with ⟨-, -, after, e⟩ | ⟨a, n, after, -, -, e⟩ | ⟨hb, -, after, e⟩
  · rw [e, ordinary, hc]
  · rw [e, loading, hc]
  · rw [e, branching, hslot hb, hc]

/-- The ten instructions of the tag that Release 6 removed (decision D19), by their names. -/
theorem isaTag_eq_preR6_iff (i : Instr) : i.isaTag = .preR6 ↔
    i.mnemonic ∈ ["MADD", "MADDU", "MSUB", "MSUBU", "MULT", "MULTU", "MFHI", "MFLO", "MTHI", "MTLO"] := by
  constructor
  · intro h
    cases i with
    | madd | maddu | msub | msubu | mult | multu | mfhi | mflo | mthi | mtlo => simp [Instr.mnemonic]
    | _ => cases h
  · intro h
    cases i with
    | madd | maddu | msub | msubu | mult | multu | mfhi | mflo | mthi | mtlo => rfl
    | _ => simp [Instr.mnemonic] at h

/-- Settles O12: the three conditions are the branches of `dspCheck`, in its order. -/
theorem dspCheckTraps : Obligations.DspCheckTraps := by
  refine ⟨fun i s hslot => ⟨fun hrev => exec_of_dspCheck hslot ?_,
    fun hrev hr6 hpre => exec_of_dspCheck hslot ?_, fun hrev hrel hoff => exec_of_dspCheck hslot ?_⟩,
    isaTag_eq_preR6_iff⟩
  · exact if_pos hrev
  · rw [dspCheck, if_neg (Nat.not_lt.mpr hrev), if_pos ⟨hr6, hpre⟩]
  · rw [dspCheck, if_neg (Nat.not_lt.mpr hrev), if_neg hrel, if_pos hoff]

/-! ### The record of a trap (R420) -/

theorem State.inSlot_eq_true_iff (s : State) : s.inSlot = true ↔ s.slot ≠ .none := decide_eq_true_iff

/-- Every trap of an instruction is the record of its state, about the instruction itself or about its load. -/
theorem exec_trap {i : Instr} {s : State} {f : Trap} (h : exec i s = .fault (.trap f)) :
    ∃ c info, f = trapOf c info s ∧ ((c = .reservedInstruction ∨ c = .dspDisabled) ∧ info = instrInfo i ∨
      ∃ n, loadAccess s i = some (info, n)) := by
  rcases exec_cases i s with ⟨_, e⟩ | ⟨c, hc, e⟩ | ⟨c, a, n, hl, e⟩ | ⟨-, e⟩
  · cases e.symm.trans h
  · cases e.symm.trans h
    exact ⟨c, _, rfl, .inl ⟨hc, rfl⟩⟩
  · cases e.symm.trans h
    exact ⟨c, a, rfl, .inr ⟨n, hl⟩⟩
  · cases e.symm.trans h

theorem step_of_misaligned {s : State} (h : s.pc.toNat % 4 ≠ 0) : step s = raise .addressError s.pc s := by
  rw [step, fetch_of_misaligned h]

theorem step_of_undecodable {s : State} {e : DecodeError} (h : s.pc.toNat % 4 = 0)
    (hd : decodeWord (s.read32 s.pc) = .error e) :
    step s = raise .reservedInstruction ((s.read32 s.pc).setWidth 64) s := by
  rw [step, fetch_of_aligned h]
  simp only [hd]

/-- Everything a step can be: the trap of a misaligned fetch, that of an undecodable word, or the run of an
instruction. -/
theorem step_cases (s : State) : (∃ c info, step s = raise c info s) ∨ ∃ i, step s = exec i s := by
  by_cases hpc : s.pc.toNat % 4 = 0
  · cases hd : decodeWord (s.read32 s.pc) with
    | error e => exact .inl ⟨_, _, step_of_undecodable hpc hd⟩
    | ok i => exact .inr ⟨i, step_of_fetch (fetch_of_aligned hpc) hd⟩
  · exact .inl ⟨_, _, step_of_misaligned hpc⟩

theorem step_trap {s : State} {f : Trap} (h : step s = .fault (.trap f)) : ∃ c info, f = trapOf c info s := by
  rcases step_cases s with ⟨c, info, e⟩ | ⟨i, e⟩
  · cases e.symm.trans h
    exact ⟨c, info, rfl⟩
  · obtain ⟨c, info, hf, -⟩ := exec_trap (e.symm.trans h)
    exact ⟨c, info, hf⟩

/-- Settles O16: every trap of a step or an instruction is the record `trapOf` of the state. -/
theorem trapRecord : Obligations.TrapRecord := by
  refine ⟨fun s f h => ?_, fun i s f h => ?_⟩
  · obtain ⟨c, info, rfl⟩ := step_trap h
    exact ⟨rfl, s.inSlot_eq_true_iff, rfl⟩
  · obtain ⟨c, info, rfl, hinfo⟩ := exec_trap h
    exact ⟨rfl, s.inSlot_eq_true_iff, rfl, hinfo⟩

/-- Settles O6: alignment is asked before the word is looked at. -/
theorem fetchAndDecodeTraps : Obligations.FetchAndDecodeTraps :=
  ⟨fun _ => step_of_misaligned, fun _ _ => step_of_undecodable⟩

/-! ### The forbidden slot and the restart (R205, R424) -/

theorem exec_branch_in_forbidden_slot {i : Instr} {s : State} (hb : isBranch i = true) (hs : s.slot = .forbidden) :
    exec i s = raise .reservedInstruction (instrInfo i) s := by
  obtain ⟨after, e⟩ := exec_eq_branching hb s
  rw [e, branching, hs]

/-- A compact branch leaves the forbidden slot exactly where it is not taken. -/
theorem State.branchCompact_slot_eq_forbidden_iff (s : State) (target : Addr) :
    (s.branchCompact target).slot = .forbidden ↔ s.posAtLeast32 = false := by
  rw [State.branchCompact_slot]
  cases s.posAtLeast32 <;> simp

/-- Settles O14: the slot comes before `DSP_CHECK` in the frame of a branch, and the model's test of `pos` sets it. -/
theorem branchInTheForbiddenSlot : Obligations.BranchInTheForbiddenSlot := by
  refine ⟨fun _ _ => exec_branch_in_forbidden_slot, fun offset s t h => ?_⟩
  obtain ⟨-, -, rfl⟩ := branching_next (tag := .dspR3) (i := .bposge32c offset) h
  rw [State.branchCompact_slot_eq_forbidden_iff, State.posAtLeast32_eq, decide_eq_false_iff_not, Nat.not_le]

/-- The state in the slot `k` after a branch executed in `s`, the latch holding `d` (`10_state.md` R24, R39). -/
def State.inSlotAfter (s : State) (k : Slot) (d : Option Addr) : State :=
  { s with pc := s.pc + 4#64, slot := k, delayed := d }

/-- A branch whose successor is in a slot changed nothing but the `pc`, the slot and the latch. -/
theorem exec_branch_into_slot {i : Instr} {s t : State} (hb : isBranch i = true) (h : exec i s = .next t)
    (ht : t.slot ≠ .none) : ∃ k d, t = s.inSlotAfter k d := by
  obtain ⟨-, ⟨offset, -, rfl⟩ | ⟨offset, -, rfl⟩⟩ := exec_of_branch hb h
  · exact ⟨.delay, _, rfl⟩
  · cases hp : s.posAtLeast32 with
    | true => simp [hp] at ht
    | false => exact ⟨.forbidden, none, by simp [State.branchCompact, State.inSlotAfter, hp]⟩

/-- The record of a trap in a slot restarts at the branch. -/
theorem trapOf_restart_of_slot {t : State} (c : Cause) (info : DWord) (ht : t.slot ≠ .none) :
    (trapOf c info t).restart = t.pc - 4#64 :=
  if_pos (t.inSlot_eq_true_iff.mpr ht)

/-- Settles O25: the restart puts back the `pc` of the branch and clears the slot and the latch, which were clear. -/
theorem restartAfterASlotTrap : Obligations.RestartAfterASlotTrap := by
  intro i s t c info hb hd h ht
  obtain ⟨hslot, -⟩ := exec_of_branch hb h
  obtain ⟨k, d, rfl⟩ := exec_branch_into_slot hb h ht
  rw [State.resumeAfter, trapOf_restart_of_slot c info ht, State.inSlotAfter, BitVec.add_sub_cancel, ← hslot, ← hd]

end Sys2Proof.Machine
end

section
/-!
Reset (`10_state.md` R40, `70_reset_and_hazards.md` R440): what each argument leaves to be read, and the invariant.
-/

namespace Sys2Proof.Machine

open Sys2Proof.Config

section

variable (params : Params) (gprs : Vector DWord 32) (accs : Vector Accum 4) (d : Word) (pc : Addr) (mem : Memory)

theorem State.gpr_resetWith (r : Reg) :
    (State.resetWith params gprs accs d pc mem).gpr r = if r = 0 then 0#64 else gprs.get r := by
  by_cases hr : r = 0
  · subst hr; rfl
  · have hne : (0 : Nat) ≠ r.val := fun h => hr (Fin.ext h.symm)
    simp [State.gpr, State.resetWith, hr, Vector.get_eq_getElem, hne]

theorem State.zeroRegister_resetWith : (State.resetWith params gprs accs d pc mem).gprs.get 0 = 0#64 := by
  simp [State.resetWith, Vector.get_eq_getElem]

/-- Reset clears the reserved bit of `DSPControl` alone (R31). -/
theorem State.getLsbD_dspControl_resetWith (n : Nat) :
    (State.resetWith params gprs accs d pc mem).dspControl.getLsbD n = (decide (n ≠ 15) && d.getLsbD n) := by
  have hmask : ∀ k < 32, (0xFFFF7FFF#32).getLsbD k = decide (k ≠ 15) := by decide
  by_cases hn : n < 32
  · rw [State.resetWith, BitVec.getLsbD_and, hmask n hn, Bool.and_comm]
  · have hn := Nat.not_lt.mp hn
    rw [BitVec.getLsbD_of_ge _ _ hn, BitVec.getLsbD_of_ge _ _ hn, Bool.and_false]

theorem State.inv_resetWith (hpc : pc.toNat % 4 = 0) (hmem : mem.wf = true) :
    (State.resetWith params gprs accs d pc mem).Inv where
  pcAligned := hpc
  delayedAligned := nofun
  delayedInDelaySlot := fun h => absurd rfl h
  zeroRegister := State.zeroRegister_resetWith params gprs accs d pc mem
  reservedBit := State.getLsbD_dspControl_resetWith params gprs accs d pc mem 15
  canonicalMemory := hmem

end

/-- Settles O8: State.reset is one of the resets, at an aligned vector with nothing listed in memory. -/
theorem resetHoldsTheInvariant : Obligations.ResetHoldsTheInvariant :=
  ⟨State.inv_resetWith _ _ _ _ _ _ rfl State.wf_reset, State.inv_resetWith⟩

/-- Settles O9: register 0 and bit 15 by the lemmas above, every other value as it was given. -/
theorem resetValues : Obligations.ResetValues := fun params gprs accs d pc mem =>
  ⟨State.gpr_resetWith params gprs accs d pc mem, fun _ => ⟨rfl, rfl⟩,
    State.getLsbD_dspControl_resetWith params gprs accs d pc mem, rfl, rfl, rfl, rfl, rfl, rfl, rfl⟩

end Sys2Proof.Machine
end

section
/-!
The decoder on words written out from the figures of `30_encoding.md`, by evaluation.
-/

namespace Sys2Proof

/-- Settles O4: the decoder evaluated on each word. -/
theorem sampleWordsDecode : Obligations.SampleWordsDecode :=
  ⟨rfl, rfl, rfl, rfl, rfl, rfl, rfl, rfl, rfl, rfl, rfl, rfl, rfl, rfl, rfl, rfl, rfl, rfl, rfl, rfl, rfl, rfl, rfl,
    rfl, rfl, rfl, rfl, rfl⟩

end Sys2Proof
end
